-- ==== Sys2Proof/Word.lean ====
section
/-! DEFINITION. The word types: 8-bit data and 16-bit addresses (00 R5, 10 R20). -/

namespace Sys2Proof

/-- The width of A, X, Y, SP, P and a memory byte (00 R5). -/
abbrev Byte := BitVec 8

/-- The width of an address and of PC (00 R5); addresses wrap modulo 65536 (20 R61). -/
abbrev Address := BitVec 16

end Sys2Proof
end

