-- ==== Sys2Proof/Config.lean ====
section
/-! DEFINITION. What is fixed for one machine and no instruction changes: what memory and the registers hold where nothing
has written them. The spec leaves no value free after an instruction, so there is no opaque constant here. -/

namespace Sys2Proof

/-- What a byte of memory that nothing has written reads as: "every memory byte is 0x00" at power-on (70 R416). -/
def Config.unlistedByte : Byte := 0x00#8

/-- DESIGN CHOICE (log entry 1): what A, X and Y hold in `State.reset`. The spec leaves them unspecified (70 R416). Unsafe. -/
def Config.unspecifiedRegister : Byte := 0x00#8

end Sys2Proof
end

