-- ==== Sys2Proof/Machine/State.lean ====
section
/-! DEFINITION. The machine's whole state (10 R39), the reasons a step could stop, and the state right after reset (10 R40). -/

namespace Sys2Proof.Machine

/-- The 64 KiB memory (20 R60) as the bytes that differ from `Config.unlistedByte`, by rising address. -/
abbrev Memory := List Host.Cell

/-- The record `error(byte, addr)` of a decode error (10 R35): the offending opcode byte and the address it was fetched
from. It is the error's whole identity (60 R380). -/
structure DecodeError where
  byte : Byte
  addr : Address
  deriving DecidableEq, Repr

/-- The complete state (10 R39). -/
structure State where
  /-- The accumulator (10 R21). -/
  A : Byte
  /-- The index register X (10 R22). -/
  X : Byte
  /-- The index register Y (10 R23). -/
  Y : Byte
  /-- The stack pointer, an index into page 1 (10 R25). -/
  SP : Byte
  /-- The program counter (10 R24). -/
  PC : Address
  /-- The status byte, bits N V U B D I Z C (10 R26). -/
  P : Byte
  /-- Memory (20 R60). -/
  mem : Memory
  /-- The cycles still owed by the in-flight instruction (10 R33). -/
  remaining : Nat
  /-- The lifetime total of cycles (10 R34). -/
  total : Nat
  /-- The decode-error latch (10 R35). -/
  halted : Option DecodeError
  deriving DecidableEq, Repr

/-- Why a step stops with a fault: never. The block's one exception, the decode error, has an effect the spec gives (60 R381)
and is a next state here (log entry 6); "nothing but decode failure is treated as abnormal" (60 R382). -/
inductive Fault where
  deriving DecidableEq, Repr

/-- Why a step is refused. -/
inductive Refusal where
  /-- Raised by an arm of `exec` whose instruction has no meaning yet, and by nothing else; no arm does. Safe. -/
  | notModelled (mnemonic : String)
  deriving DecidableEq, Repr

/-- The machine right after `Reset(clear_status = true)` at power-on (70 R410 to R416): PC is the word at the Reset vector of
the all-zero memory (log entry 3), SP is 0xFF, P is 0x00 (log entry 2), both counters are 0 and nothing is latched; A, X and
Y are the model's choice (DESIGN CHOICE, log entry 1). -/
def State.reset : State where
  A := Config.unspecifiedRegister
  X := Config.unspecifiedRegister
  Y := Config.unspecifiedRegister
  SP := 0xFF#8
  PC := 0x0000#16
  P := 0x00#8
  mem := []
  remaining := 0
  total := 0
  halted := none

end Sys2Proof.Machine
end

