-- ==== Sys2Proof/Machine/Flags.lean ====
section
/-! DEFINITION. The status byte's flags and every flag computation of the spec: `SetZN` (10 R31), the add, subtract and
compare cores (42 R202 to R204), the shift cores (43 R251 to R254) and the pushed and pulled copies of P (45 R301, R303). -/

namespace Sys2Proof.Machine

/-- The eight bits of P (10 R26). -/
inductive Flag where
  | C | Z | I | D | B | U | V | N
  deriving DecidableEq, Repr

/-- The bit of P that is a flag (10 R26). -/
def Flag.bit : Flag → Nat
  | .C => 0
  | .Z => 1
  | .I => 2
  | .D => 3
  | .B => 4
  | .U => 5
  | .V => 6
  | .N => 7

/-- One flag of a status byte. -/
def flagOf (f : Flag) (p : Byte) : Bool := p.getLsbD f.bit

/-- A status byte with one flag written and the other seven kept. -/
def putFlag (f : Flag) (v : Bool) (p : Byte) : Byte :=
  if v then p ||| BitVec.twoPow 8 f.bit else p &&& ~~~BitVec.twoPow 8 f.bit

/-- `P.f` (00 R8). -/
def State.flag (s : State) (f : Flag) : Bool := flagOf f s.P

/-- `P.f <- v` (00 R8). -/
def State.setFlag (s : State) (f : Flag) (v : Bool) : State := { s with P := putFlag f v s.P }

/-- `SetZN(v)`: "Zero iff result byte == 0; Negative iff bit7 of result set", and nothing else (10 R31). -/
def State.setZN (s : State) (v : Byte) : State := (s.setFlag .Z (decide (v = 0#8))).setFlag .N (v.getLsbD 7)

/-- A flag as the integer it is in a sum: 1 for true and 0 for false (00 R7). -/
def bitOf (c : Bool) : Nat := if c then 1 else 0

/-- What an arithmetic core gives: the result byte, the new Carry and the new Overflow. -/
structure CoreResult where
  result : Byte
  carry : Bool
  overflow : Bool
  deriving DecidableEq, Repr

/-- The add core (42 R202), on integers: `sum = a + m + c`. Binary whatever P.D holds (42 R201). -/
def addCore (a m : Byte) (c : Bool) : CoreResult :=
  let sum := a.toNat + m.toNat + bitOf c
  let r := BitVec.ofNat 8 sum
  { result := r
    carry := decide (sum > 255)
    overflow := decide ((a ^^^ m) &&& 0x80#8 = 0#8 ∧ (a ^^^ r) &&& 0x80#8 ≠ 0#8) }

/-- The subtract core (42 R203), on integers: `diff = a - m - (1 - c)`. Binary whatever P.D holds (42 R201). -/
def subCore (a m : Byte) (c : Bool) : CoreResult :=
  let diff : Int := (a.toNat : Int) - m.toNat - (1 - bitOf c)
  let r := BitVec.ofInt 8 diff
  { result := r
    carry := decide (diff ≥ 0)
    overflow := decide ((a ^^^ m) &&& 0x80#8 ≠ 0#8 ∧ (a ^^^ r) &&& 0x80#8 ≠ 0#8) }

/-- The compare core (42 R204): the difference byte and "Carry set iff `reg >= M`" as unsigned bytes. It writes P only. -/
def State.compare (s : State) (reg m : Byte) : State :=
  (s.setFlag .C (decide (reg.toNat ≥ m.toNat))).setZN (reg - m)

/-- What a shift gives: the result byte and the bit shifted out. -/
structure ShiftResult where
  result : Byte
  out : Bool
  deriving DecidableEq, Repr

/-- A shift core: the old value and the previous carry give the result and the bit shifted out (43 R250). -/
abbrev ShiftCore := Byte → Bool → ShiftResult

/-- ASL (43 R251): the old carry is not shifted in. -/
def aslCore : ShiftCore := fun v _ => ⟨v <<< 1, v.getLsbD 7⟩

/-- LSR (43 R252). -/
def lsrCore : ShiftCore := fun v _ => ⟨v >>> 1, v.getLsbD 0⟩

/-- ROL (43 R253): the previous carry enters at bit 0. -/
def rolCore : ShiftCore := fun v c => ⟨(v <<< 1) ||| BitVec.ofNat 8 (bitOf c), v.getLsbD 7⟩

/-- ROR (43 R254): the previous carry enters at bit 7. -/
def rorCore : ShiftCore := fun v c => ⟨(v >>> 1) ||| (BitVec.ofNat 8 (bitOf c) <<< 7), v.getLsbD 0⟩

/-- The copy of P that BRK and PHP push: `P | 0x30`, B and bit 5 forced to 1 (45 R301, R311). -/
def pushedStatus (p : Byte) : Byte := p ||| 0x30#8

/-- What RTI and PLP load from a pulled byte: `& 0xCF`, B and bit 5 cleared (45 R303, R312). -/
def pulledStatus (b : Byte) : Byte := b &&& 0xCF#8

end Sys2Proof.Machine
end

