-- ==== Sys2Proof/Syntax.lean ====
section
/-! DEFINITION. The instruction set as syntax: the 56 mnemonics (30 R99), the 13 addressing-mode tags and the three
formats (30 R91), the operand forms (40 R122 to R134) and `Instr`, one constructor per row of the opcode table (30 R94). -/

namespace Sys2Proof

/-- The 56 mnemonics (30 R99), in the rule's order. -/
inductive Mnemonic where
  | ADC | AND | ASL | BCC | BCS | BEQ | BIT | BMI
  | BNE | BPL | BRK | BVC | BVS | CLC | CLD | CLI
  | CLV | CMP | CPX | CPY | DEC | DEX | DEY | EOR
  | INC | INX | INY | JMP | JSR | LDA | LDX | LDY
  | LSR | NOP | ORA | PHA | PHP | PLA | PLP | ROL
  | ROR | RTI | RTS | SBC | SEC | SED | SEI | STA
  | STX | STY | TAX | TAY | TSX | TXA | TXS | TYA
  deriving DecidableEq, Repr

/-- The thirteen mode tags (30 R91). -/
inductive Mode where
  | acc | imp | imm | zp | zpX | zpY | rel | xInd | indY | abs | absX | absY | ind
  deriving DecidableEq, Repr

/-- The three formats, one per length (30 R91). -/
inductive Format where
  | one | two | three
  deriving DecidableEq, Repr

/-- A memory operand as written: one of the ten modes that name an address, with its operand bytes. A format-3 operand is
the 16-bit value `(b2 << 8) | b1` (30 R92). -/
inductive MemForm where
  | imm (b : Byte) | zp (b : Byte) | zpX (b : Byte) | zpY (b : Byte) | xInd (b : Byte) | indY (b : Byte)
  | abs (w : Address) | absX (w : Address) | absY (w : Address) | ind (w : Address)
  deriving DecidableEq, Repr

/-- An instruction's operand as written, in any of the thirteen modes. A Relative operand is the sign-extended
displacement (30 R92). -/
inductive Operand where
  | acc
  | imp
  | mem (f : MemForm)
  | rel (d : Int)
  deriving DecidableEq, Repr

/-- The instructions: one constructor per row of `opcode_table.json`, in the table's order, with the row's operand.
A mnemonic with one row has no mode in its name. -/
inductive Instr where
  | brk
  | oraXInd (b : Byte)
  | oraZp (b : Byte)
  | aslZp (b : Byte)
  | php
  | oraImm (b : Byte)
  | aslAcc
  | oraAbs (w : Address)
  | aslAbs (w : Address)
  | bpl (d : Int)
  | oraIndY (b : Byte)
  | oraZpX (b : Byte)
  | aslZpX (b : Byte)
  | clc
  | oraAbsY (w : Address)
  | oraAbsX (w : Address)
  | aslAbsX (w : Address)
  | jsr (w : Address)
  | andXInd (b : Byte)
  | bitZp (b : Byte)
  | andZp (b : Byte)
  | rolZp (b : Byte)
  | plp
  | andImm (b : Byte)
  | rolAcc
  | bitAbs (w : Address)
  | andAbs (w : Address)
  | rolAbs (w : Address)
  | bmi (d : Int)
  | andIndY (b : Byte)
  | andZpX (b : Byte)
  | rolZpX (b : Byte)
  | sec
  | andAbsY (w : Address)
  | andAbsX (w : Address)
  | rolAbsX (w : Address)
  | rti
  | eorXInd (b : Byte)
  | eorZp (b : Byte)
  | lsrZp (b : Byte)
  | pha
  | eorImm (b : Byte)
  | lsrAcc
  | jmpAbs (w : Address)
  | eorAbs (w : Address)
  | lsrAbs (w : Address)
  | bvc (d : Int)
  | eorIndY (b : Byte)
  | eorZpX (b : Byte)
  | lsrZpX (b : Byte)
  | cli
  | eorAbsY (w : Address)
  | eorAbsX (w : Address)
  | lsrAbsX (w : Address)
  | rts
  | adcXInd (b : Byte)
  | adcZp (b : Byte)
  | rorZp (b : Byte)
  | pla
  | adcImm (b : Byte)
  | rorAcc
  | jmpInd (w : Address)
  | adcAbs (w : Address)
  | rorAbs (w : Address)
  | bvs (d : Int)
  | adcIndY (b : Byte)
  | adcZpX (b : Byte)
  | rorZpX (b : Byte)
  | sei
  | adcAbsY (w : Address)
  | adcAbsX (w : Address)
  | rorAbsX (w : Address)
  | staXInd (b : Byte)
  | styZp (b : Byte)
  | staZp (b : Byte)
  | stxZp (b : Byte)
  | dey
  | txa
  | styAbs (w : Address)
  | staAbs (w : Address)
  | stxAbs (w : Address)
  | bcc (d : Int)
  | staIndY (b : Byte)
  | styZpX (b : Byte)
  | staZpX (b : Byte)
  | stxZpY (b : Byte)
  | tya
  | staAbsY (w : Address)
  | txs
  | staAbsX (w : Address)
  | ldyImm (b : Byte)
  | ldaXInd (b : Byte)
  | ldxImm (b : Byte)
  | ldyZp (b : Byte)
  | ldaZp (b : Byte)
  | ldxZp (b : Byte)
  | tay
  | ldaImm (b : Byte)
  | tax
  | ldyAbs (w : Address)
  | ldaAbs (w : Address)
  | ldxAbs (w : Address)
  | bcs (d : Int)
  | ldaIndY (b : Byte)
  | ldyZpX (b : Byte)
  | ldaZpX (b : Byte)
  | ldxZpY (b : Byte)
  | clv
  | ldaAbsY (w : Address)
  | tsx
  | ldyAbsX (w : Address)
  | ldaAbsX (w : Address)
  | ldxAbsY (w : Address)
  | cpyImm (b : Byte)
  | cmpXInd (b : Byte)
  | cpyZp (b : Byte)
  | cmpZp (b : Byte)
  | decZp (b : Byte)
  | iny
  | cmpImm (b : Byte)
  | dex
  | cpyAbs (w : Address)
  | cmpAbs (w : Address)
  | decAbs (w : Address)
  | bne (d : Int)
  | cmpIndY (b : Byte)
  | cmpZpX (b : Byte)
  | decZpX (b : Byte)
  | cld
  | cmpAbsY (w : Address)
  | cmpAbsX (w : Address)
  | decAbsX (w : Address)
  | cpxImm (b : Byte)
  | sbcXInd (b : Byte)
  | cpxZp (b : Byte)
  | sbcZp (b : Byte)
  | incZp (b : Byte)
  | inx
  | sbcImm (b : Byte)
  | nop
  | cpxAbs (w : Address)
  | sbcAbs (w : Address)
  | incAbs (w : Address)
  | beq (d : Int)
  | sbcIndY (b : Byte)
  | sbcZpX (b : Byte)
  | incZpX (b : Byte)
  | sed
  | sbcAbsY (w : Address)
  | sbcAbsX (w : Address)
  | incAbsX (w : Address)
  deriving DecidableEq, Repr

/-- The mnemonic of an instruction's row (30 R94). -/
def Instr.mnemonic : Instr → Mnemonic
  | .brk => .BRK
  | .oraXInd _ => .ORA
  | .oraZp _ => .ORA
  | .aslZp _ => .ASL
  | .php => .PHP
  | .oraImm _ => .ORA
  | .aslAcc => .ASL
  | .oraAbs _ => .ORA
  | .aslAbs _ => .ASL
  | .bpl _ => .BPL
  | .oraIndY _ => .ORA
  | .oraZpX _ => .ORA
  | .aslZpX _ => .ASL
  | .clc => .CLC
  | .oraAbsY _ => .ORA
  | .oraAbsX _ => .ORA
  | .aslAbsX _ => .ASL
  | .jsr _ => .JSR
  | .andXInd _ => .AND
  | .bitZp _ => .BIT
  | .andZp _ => .AND
  | .rolZp _ => .ROL
  | .plp => .PLP
  | .andImm _ => .AND
  | .rolAcc => .ROL
  | .bitAbs _ => .BIT
  | .andAbs _ => .AND
  | .rolAbs _ => .ROL
  | .bmi _ => .BMI
  | .andIndY _ => .AND
  | .andZpX _ => .AND
  | .rolZpX _ => .ROL
  | .sec => .SEC
  | .andAbsY _ => .AND
  | .andAbsX _ => .AND
  | .rolAbsX _ => .ROL
  | .rti => .RTI
  | .eorXInd _ => .EOR
  | .eorZp _ => .EOR
  | .lsrZp _ => .LSR
  | .pha => .PHA
  | .eorImm _ => .EOR
  | .lsrAcc => .LSR
  | .jmpAbs _ => .JMP
  | .eorAbs _ => .EOR
  | .lsrAbs _ => .LSR
  | .bvc _ => .BVC
  | .eorIndY _ => .EOR
  | .eorZpX _ => .EOR
  | .lsrZpX _ => .LSR
  | .cli => .CLI
  | .eorAbsY _ => .EOR
  | .eorAbsX _ => .EOR
  | .lsrAbsX _ => .LSR
  | .rts => .RTS
  | .adcXInd _ => .ADC
  | .adcZp _ => .ADC
  | .rorZp _ => .ROR
  | .pla => .PLA
  | .adcImm _ => .ADC
  | .rorAcc => .ROR
  | .jmpInd _ => .JMP
  | .adcAbs _ => .ADC
  | .rorAbs _ => .ROR
  | .bvs _ => .BVS
  | .adcIndY _ => .ADC
  | .adcZpX _ => .ADC
  | .rorZpX _ => .ROR
  | .sei => .SEI
  | .adcAbsY _ => .ADC
  | .adcAbsX _ => .ADC
  | .rorAbsX _ => .ROR
  | .staXInd _ => .STA
  | .styZp _ => .STY
  | .staZp _ => .STA
  | .stxZp _ => .STX
  | .dey => .DEY
  | .txa => .TXA
  | .styAbs _ => .STY
  | .staAbs _ => .STA
  | .stxAbs _ => .STX
  | .bcc _ => .BCC
  | .staIndY _ => .STA
  | .styZpX _ => .STY
  | .staZpX _ => .STA
  | .stxZpY _ => .STX
  | .tya => .TYA
  | .staAbsY _ => .STA
  | .txs => .TXS
  | .staAbsX _ => .STA
  | .ldyImm _ => .LDY
  | .ldaXInd _ => .LDA
  | .ldxImm _ => .LDX
  | .ldyZp _ => .LDY
  | .ldaZp _ => .LDA
  | .ldxZp _ => .LDX
  | .tay => .TAY
  | .ldaImm _ => .LDA
  | .tax => .TAX
  | .ldyAbs _ => .LDY
  | .ldaAbs _ => .LDA
  | .ldxAbs _ => .LDX
  | .bcs _ => .BCS
  | .ldaIndY _ => .LDA
  | .ldyZpX _ => .LDY
  | .ldaZpX _ => .LDA
  | .ldxZpY _ => .LDX
  | .clv => .CLV
  | .ldaAbsY _ => .LDA
  | .tsx => .TSX
  | .ldyAbsX _ => .LDY
  | .ldaAbsX _ => .LDA
  | .ldxAbsY _ => .LDX
  | .cpyImm _ => .CPY
  | .cmpXInd _ => .CMP
  | .cpyZp _ => .CPY
  | .cmpZp _ => .CMP
  | .decZp _ => .DEC
  | .iny => .INY
  | .cmpImm _ => .CMP
  | .dex => .DEX
  | .cpyAbs _ => .CPY
  | .cmpAbs _ => .CMP
  | .decAbs _ => .DEC
  | .bne _ => .BNE
  | .cmpIndY _ => .CMP
  | .cmpZpX _ => .CMP
  | .decZpX _ => .DEC
  | .cld => .CLD
  | .cmpAbsY _ => .CMP
  | .cmpAbsX _ => .CMP
  | .decAbsX _ => .DEC
  | .cpxImm _ => .CPX
  | .sbcXInd _ => .SBC
  | .cpxZp _ => .CPX
  | .sbcZp _ => .SBC
  | .incZp _ => .INC
  | .inx => .INX
  | .sbcImm _ => .SBC
  | .nop => .NOP
  | .cpxAbs _ => .CPX
  | .sbcAbs _ => .SBC
  | .incAbs _ => .INC
  | .beq _ => .BEQ
  | .sbcIndY _ => .SBC
  | .sbcZpX _ => .SBC
  | .incZpX _ => .INC
  | .sed => .SED
  | .sbcAbsY _ => .SBC
  | .sbcAbsX _ => .SBC
  | .incAbsX _ => .INC

/-- The operand an instruction carries, with its mode (30 R94). -/
def Instr.operand : Instr → Operand
  | .brk => .imp
  | .oraXInd b => .mem (.xInd b)
  | .oraZp b => .mem (.zp b)
  | .aslZp b => .mem (.zp b)
  | .php => .imp
  | .oraImm b => .mem (.imm b)
  | .aslAcc => .acc
  | .oraAbs w => .mem (.abs w)
  | .aslAbs w => .mem (.abs w)
  | .bpl d => .rel d
  | .oraIndY b => .mem (.indY b)
  | .oraZpX b => .mem (.zpX b)
  | .aslZpX b => .mem (.zpX b)
  | .clc => .imp
  | .oraAbsY w => .mem (.absY w)
  | .oraAbsX w => .mem (.absX w)
  | .aslAbsX w => .mem (.absX w)
  | .jsr w => .mem (.abs w)
  | .andXInd b => .mem (.xInd b)
  | .bitZp b => .mem (.zp b)
  | .andZp b => .mem (.zp b)
  | .rolZp b => .mem (.zp b)
  | .plp => .imp
  | .andImm b => .mem (.imm b)
  | .rolAcc => .acc
  | .bitAbs w => .mem (.abs w)
  | .andAbs w => .mem (.abs w)
  | .rolAbs w => .mem (.abs w)
  | .bmi d => .rel d
  | .andIndY b => .mem (.indY b)
  | .andZpX b => .mem (.zpX b)
  | .rolZpX b => .mem (.zpX b)
  | .sec => .imp
  | .andAbsY w => .mem (.absY w)
  | .andAbsX w => .mem (.absX w)
  | .rolAbsX w => .mem (.absX w)
  | .rti => .imp
  | .eorXInd b => .mem (.xInd b)
  | .eorZp b => .mem (.zp b)
  | .lsrZp b => .mem (.zp b)
  | .pha => .imp
  | .eorImm b => .mem (.imm b)
  | .lsrAcc => .acc
  | .jmpAbs w => .mem (.abs w)
  | .eorAbs w => .mem (.abs w)
  | .lsrAbs w => .mem (.abs w)
  | .bvc d => .rel d
  | .eorIndY b => .mem (.indY b)
  | .eorZpX b => .mem (.zpX b)
  | .lsrZpX b => .mem (.zpX b)
  | .cli => .imp
  | .eorAbsY w => .mem (.absY w)
  | .eorAbsX w => .mem (.absX w)
  | .lsrAbsX w => .mem (.absX w)
  | .rts => .imp
  | .adcXInd b => .mem (.xInd b)
  | .adcZp b => .mem (.zp b)
  | .rorZp b => .mem (.zp b)
  | .pla => .imp
  | .adcImm b => .mem (.imm b)
  | .rorAcc => .acc
  | .jmpInd w => .mem (.ind w)
  | .adcAbs w => .mem (.abs w)
  | .rorAbs w => .mem (.abs w)
  | .bvs d => .rel d
  | .adcIndY b => .mem (.indY b)
  | .adcZpX b => .mem (.zpX b)
  | .rorZpX b => .mem (.zpX b)
  | .sei => .imp
  | .adcAbsY w => .mem (.absY w)
  | .adcAbsX w => .mem (.absX w)
  | .rorAbsX w => .mem (.absX w)
  | .staXInd b => .mem (.xInd b)
  | .styZp b => .mem (.zp b)
  | .staZp b => .mem (.zp b)
  | .stxZp b => .mem (.zp b)
  | .dey => .imp
  | .txa => .imp
  | .styAbs w => .mem (.abs w)
  | .staAbs w => .mem (.abs w)
  | .stxAbs w => .mem (.abs w)
  | .bcc d => .rel d
  | .staIndY b => .mem (.indY b)
  | .styZpX b => .mem (.zpX b)
  | .staZpX b => .mem (.zpX b)
  | .stxZpY b => .mem (.zpY b)
  | .tya => .imp
  | .staAbsY w => .mem (.absY w)
  | .txs => .imp
  | .staAbsX w => .mem (.absX w)
  | .ldyImm b => .mem (.imm b)
  | .ldaXInd b => .mem (.xInd b)
  | .ldxImm b => .mem (.imm b)
  | .ldyZp b => .mem (.zp b)
  | .ldaZp b => .mem (.zp b)
  | .ldxZp b => .mem (.zp b)
  | .tay => .imp
  | .ldaImm b => .mem (.imm b)
  | .tax => .imp
  | .ldyAbs w => .mem (.abs w)
  | .ldaAbs w => .mem (.abs w)
  | .ldxAbs w => .mem (.abs w)
  | .bcs d => .rel d
  | .ldaIndY b => .mem (.indY b)
  | .ldyZpX b => .mem (.zpX b)
  | .ldaZpX b => .mem (.zpX b)
  | .ldxZpY b => .mem (.zpY b)
  | .clv => .imp
  | .ldaAbsY w => .mem (.absY w)
  | .tsx => .imp
  | .ldyAbsX w => .mem (.absX w)
  | .ldaAbsX w => .mem (.absX w)
  | .ldxAbsY w => .mem (.absY w)
  | .cpyImm b => .mem (.imm b)
  | .cmpXInd b => .mem (.xInd b)
  | .cpyZp b => .mem (.zp b)
  | .cmpZp b => .mem (.zp b)
  | .decZp b => .mem (.zp b)
  | .iny => .imp
  | .cmpImm b => .mem (.imm b)
  | .dex => .imp
  | .cpyAbs w => .mem (.abs w)
  | .cmpAbs w => .mem (.abs w)
  | .decAbs w => .mem (.abs w)
  | .bne d => .rel d
  | .cmpIndY b => .mem (.indY b)
  | .cmpZpX b => .mem (.zpX b)
  | .decZpX b => .mem (.zpX b)
  | .cld => .imp
  | .cmpAbsY w => .mem (.absY w)
  | .cmpAbsX w => .mem (.absX w)
  | .decAbsX w => .mem (.absX w)
  | .cpxImm b => .mem (.imm b)
  | .sbcXInd b => .mem (.xInd b)
  | .cpxZp b => .mem (.zp b)
  | .sbcZp b => .mem (.zp b)
  | .incZp b => .mem (.zp b)
  | .inx => .imp
  | .sbcImm b => .mem (.imm b)
  | .nop => .imp
  | .cpxAbs w => .mem (.abs w)
  | .sbcAbs w => .mem (.abs w)
  | .incAbs w => .mem (.abs w)
  | .beq d => .rel d
  | .sbcIndY b => .mem (.indY b)
  | .sbcZpX b => .mem (.zpX b)
  | .incZpX b => .mem (.zpX b)
  | .sed => .imp
  | .sbcAbsY w => .mem (.absY w)
  | .sbcAbsX w => .mem (.absX w)
  | .incAbsX w => .mem (.absX w)

/-- The mode tag of a memory operand form (30 R91). -/
def MemForm.mode : MemForm → Mode
  | .imm _ => .imm
  | .zp _ => .zp
  | .zpX _ => .zpX
  | .zpY _ => .zpY
  | .xInd _ => .xInd
  | .indY _ => .indY
  | .abs _ => .abs
  | .absX _ => .absX
  | .absY _ => .absY
  | .ind _ => .ind

/-- The mode tag of an operand (30 R91). -/
def Operand.mode : Operand → Mode
  | .acc => .acc
  | .imp => .imp
  | .mem f => f.mode
  | .rel _ => .rel

/-- The mode tag of an instruction (40 R121: "an opcode's mode is the one the opcode table gives"). -/
def Instr.mode (i : Instr) : Mode := i.operand.mode

end Sys2Proof
end

