-- ==== Sys2Proof/WellFormed.lean ====
section
/-! DEFINITION. Which instructions are well formed: an operand that its encoding can hold. Bytes and words always fit, and
"every value of b1 and b2 is legal for every instruction" (30 R98), so only a branch displacement is checked. -/

namespace Sys2Proof

/-- An operand fits its encoding: a displacement lies in -128..127 (40 R120, 30 R92). -/
def Operand.wf : Operand → Bool
  | .acc | .imp | .mem _ => true
  | .rel d => decide (-128 ≤ d ∧ d ≤ 127)

/-- An instruction is well formed when its operand is. -/
def Instr.wf (i : Instr) : Bool := i.operand.wf

end Sys2Proof
end

