-- ==== Sys2Proof/Decode.lean ====
section
/-! DEFINITION. The decoder: the opcode table of 30 R94 as data, decoding of any list of bytes with rejection by name, and
after it the encoder, from the same table's formats (30 R90 to R98). Also the byte-order helpers of 20 R64. -/

namespace Sys2Proof

/-- The 16-bit little-endian value `(hi << 8) | lo` (20 R64, 30 R92). -/
def wordOf (hi lo : Byte) : Address := hi ++ lo

/-- The low byte of a 16-bit value: the byte at the lower address (20 R64). -/
def lowByte (w : Address) : Byte := w.setWidth 8

/-- The high byte of a 16-bit value (20 R64); for an address, its page (20 R67). -/
def highByte (w : Address) : Byte := (w >>> 8).setWidth 8

/-- `sext_8(b)`: `b - 256` if `b >= 0x80`, else `b` (00 R7, 30 R92). -/
def sext8 (b : Byte) : Int := b.toInt

/-- The format of a mode tag (30 R91). -/
def Mode.format : Mode → Format
  | .acc | .imp => .one
  | .imm | .zp | .zpX | .zpY | .rel | .xInd | .indY => .two
  | .abs | .absX | .absY | .ind => .three

/-- The length in bytes of a format (30 R90, R91). -/
def Format.size : Format → Nat
  | .one => 1
  | .two => 2
  | .three => 3

/-- The length in bytes of an instruction of a mode (30 R91). -/
def Mode.size (m : Mode) : Nat := m.format.size

/-- The length in bytes of an instruction, fixed by its row (30 R90). -/
def Instr.size (i : Instr) : Nat := i.mode.size

/-- One entry of the opcode table (30 R94): the opcode byte, the mnemonic, the mode (which fixes the size), the base
cycles, whether the row pays the page-crossing penalty (`+pg`), and the instruction the row makes of the operand bytes. -/
structure OpcodeRow where
  opcode : Byte
  mnemonic : Mnemonic
  mode : Mode
  base : Nat
  pagePenalty : Bool
  build : Byte → Byte → Instr

/-- The rows of 30 R94 with opcodes 0x00 to 0x0F. -/
def opcodeRows0 : List OpcodeRow := [
  ⟨0x00#8, .BRK, .imp, 7, false, fun _ _ => .brk⟩,
  ⟨0x01#8, .ORA, .xInd, 6, false, fun b1 _ => .oraXInd b1⟩,
  ⟨0x05#8, .ORA, .zp, 3, false, fun b1 _ => .oraZp b1⟩,
  ⟨0x06#8, .ASL, .zp, 5, false, fun b1 _ => .aslZp b1⟩,
  ⟨0x08#8, .PHP, .imp, 3, false, fun _ _ => .php⟩,
  ⟨0x09#8, .ORA, .imm, 2, false, fun b1 _ => .oraImm b1⟩,
  ⟨0x0A#8, .ASL, .acc, 2, false, fun _ _ => .aslAcc⟩,
  ⟨0x0D#8, .ORA, .abs, 4, false, fun b1 b2 => .oraAbs (wordOf b2 b1)⟩,
  ⟨0x0E#8, .ASL, .abs, 6, false, fun b1 b2 => .aslAbs (wordOf b2 b1)⟩]

/-- The rows of 30 R94 with opcodes 0x10 to 0x1F. -/
def opcodeRows1 : List OpcodeRow := [
  ⟨0x10#8, .BPL, .rel, 2, false, fun b1 _ => .bpl (sext8 b1)⟩,
  ⟨0x11#8, .ORA, .indY, 5, true, fun b1 _ => .oraIndY b1⟩,
  ⟨0x15#8, .ORA, .zpX, 4, false, fun b1 _ => .oraZpX b1⟩,
  ⟨0x16#8, .ASL, .zpX, 6, false, fun b1 _ => .aslZpX b1⟩,
  ⟨0x18#8, .CLC, .imp, 2, false, fun _ _ => .clc⟩,
  ⟨0x19#8, .ORA, .absY, 4, true, fun b1 b2 => .oraAbsY (wordOf b2 b1)⟩,
  ⟨0x1D#8, .ORA, .absX, 4, true, fun b1 b2 => .oraAbsX (wordOf b2 b1)⟩,
  ⟨0x1E#8, .ASL, .absX, 7, false, fun b1 b2 => .aslAbsX (wordOf b2 b1)⟩]

/-- The rows of 30 R94 with opcodes 0x20 to 0x2F. -/
def opcodeRows2 : List OpcodeRow := [
  ⟨0x20#8, .JSR, .abs, 6, false, fun b1 b2 => .jsr (wordOf b2 b1)⟩,
  ⟨0x21#8, .AND, .xInd, 6, false, fun b1 _ => .andXInd b1⟩,
  ⟨0x24#8, .BIT, .zp, 3, false, fun b1 _ => .bitZp b1⟩,
  ⟨0x25#8, .AND, .zp, 3, false, fun b1 _ => .andZp b1⟩,
  ⟨0x26#8, .ROL, .zp, 5, false, fun b1 _ => .rolZp b1⟩,
  ⟨0x28#8, .PLP, .imp, 4, false, fun _ _ => .plp⟩,
  ⟨0x29#8, .AND, .imm, 2, false, fun b1 _ => .andImm b1⟩,
  ⟨0x2A#8, .ROL, .acc, 2, false, fun _ _ => .rolAcc⟩,
  ⟨0x2C#8, .BIT, .abs, 4, false, fun b1 b2 => .bitAbs (wordOf b2 b1)⟩,
  ⟨0x2D#8, .AND, .abs, 4, false, fun b1 b2 => .andAbs (wordOf b2 b1)⟩,
  ⟨0x2E#8, .ROL, .abs, 6, false, fun b1 b2 => .rolAbs (wordOf b2 b1)⟩]

/-- The rows of 30 R94 with opcodes 0x30 to 0x3F. -/
def opcodeRows3 : List OpcodeRow := [
  ⟨0x30#8, .BMI, .rel, 2, false, fun b1 _ => .bmi (sext8 b1)⟩,
  ⟨0x31#8, .AND, .indY, 5, true, fun b1 _ => .andIndY b1⟩,
  ⟨0x35#8, .AND, .zpX, 4, false, fun b1 _ => .andZpX b1⟩,
  ⟨0x36#8, .ROL, .zpX, 6, false, fun b1 _ => .rolZpX b1⟩,
  ⟨0x38#8, .SEC, .imp, 2, false, fun _ _ => .sec⟩,
  ⟨0x39#8, .AND, .absY, 4, true, fun b1 b2 => .andAbsY (wordOf b2 b1)⟩,
  ⟨0x3D#8, .AND, .absX, 4, true, fun b1 b2 => .andAbsX (wordOf b2 b1)⟩,
  ⟨0x3E#8, .ROL, .absX, 7, false, fun b1 b2 => .rolAbsX (wordOf b2 b1)⟩]

/-- The rows of 30 R94 with opcodes 0x40 to 0x4F. -/
def opcodeRows4 : List OpcodeRow := [
  ⟨0x40#8, .RTI, .imp, 6, false, fun _ _ => .rti⟩,
  ⟨0x41#8, .EOR, .xInd, 6, false, fun b1 _ => .eorXInd b1⟩,
  ⟨0x45#8, .EOR, .zp, 3, false, fun b1 _ => .eorZp b1⟩,
  ⟨0x46#8, .LSR, .zp, 5, false, fun b1 _ => .lsrZp b1⟩,
  ⟨0x48#8, .PHA, .imp, 3, false, fun _ _ => .pha⟩,
  ⟨0x49#8, .EOR, .imm, 2, false, fun b1 _ => .eorImm b1⟩,
  ⟨0x4A#8, .LSR, .acc, 2, false, fun _ _ => .lsrAcc⟩,
  ⟨0x4C#8, .JMP, .abs, 3, false, fun b1 b2 => .jmpAbs (wordOf b2 b1)⟩,
  ⟨0x4D#8, .EOR, .abs, 4, false, fun b1 b2 => .eorAbs (wordOf b2 b1)⟩,
  ⟨0x4E#8, .LSR, .abs, 6, false, fun b1 b2 => .lsrAbs (wordOf b2 b1)⟩]

/-- The rows of 30 R94 with opcodes 0x50 to 0x5F. -/
def opcodeRows5 : List OpcodeRow := [
  ⟨0x50#8, .BVC, .rel, 2, false, fun b1 _ => .bvc (sext8 b1)⟩,
  ⟨0x51#8, .EOR, .indY, 5, true, fun b1 _ => .eorIndY b1⟩,
  ⟨0x55#8, .EOR, .zpX, 4, false, fun b1 _ => .eorZpX b1⟩,
  ⟨0x56#8, .LSR, .zpX, 6, false, fun b1 _ => .lsrZpX b1⟩,
  ⟨0x58#8, .CLI, .imp, 2, false, fun _ _ => .cli⟩,
  ⟨0x59#8, .EOR, .absY, 4, true, fun b1 b2 => .eorAbsY (wordOf b2 b1)⟩,
  ⟨0x5D#8, .EOR, .absX, 4, true, fun b1 b2 => .eorAbsX (wordOf b2 b1)⟩,
  ⟨0x5E#8, .LSR, .absX, 7, false, fun b1 b2 => .lsrAbsX (wordOf b2 b1)⟩]

/-- The rows of 30 R94 with opcodes 0x60 to 0x6F. -/
def opcodeRows6 : List OpcodeRow := [
  ⟨0x60#8, .RTS, .imp, 6, false, fun _ _ => .rts⟩,
  ⟨0x61#8, .ADC, .xInd, 6, false, fun b1 _ => .adcXInd b1⟩,
  ⟨0x65#8, .ADC, .zp, 3, false, fun b1 _ => .adcZp b1⟩,
  ⟨0x66#8, .ROR, .zp, 5, false, fun b1 _ => .rorZp b1⟩,
  ⟨0x68#8, .PLA, .imp, 4, false, fun _ _ => .pla⟩,
  ⟨0x69#8, .ADC, .imm, 2, false, fun b1 _ => .adcImm b1⟩,
  ⟨0x6A#8, .ROR, .acc, 2, false, fun _ _ => .rorAcc⟩,
  ⟨0x6C#8, .JMP, .ind, 5, false, fun b1 b2 => .jmpInd (wordOf b2 b1)⟩,
  ⟨0x6D#8, .ADC, .abs, 4, false, fun b1 b2 => .adcAbs (wordOf b2 b1)⟩,
  ⟨0x6E#8, .ROR, .abs, 6, false, fun b1 b2 => .rorAbs (wordOf b2 b1)⟩]

/-- The rows of 30 R94 with opcodes 0x70 to 0x7F. -/
def opcodeRows7 : List OpcodeRow := [
  ⟨0x70#8, .BVS, .rel, 2, false, fun b1 _ => .bvs (sext8 b1)⟩,
  ⟨0x71#8, .ADC, .indY, 5, true, fun b1 _ => .adcIndY b1⟩,
  ⟨0x75#8, .ADC, .zpX, 4, false, fun b1 _ => .adcZpX b1⟩,
  ⟨0x76#8, .ROR, .zpX, 6, false, fun b1 _ => .rorZpX b1⟩,
  ⟨0x78#8, .SEI, .imp, 2, false, fun _ _ => .sei⟩,
  ⟨0x79#8, .ADC, .absY, 4, true, fun b1 b2 => .adcAbsY (wordOf b2 b1)⟩,
  ⟨0x7D#8, .ADC, .absX, 4, true, fun b1 b2 => .adcAbsX (wordOf b2 b1)⟩,
  ⟨0x7E#8, .ROR, .absX, 7, false, fun b1 b2 => .rorAbsX (wordOf b2 b1)⟩]

/-- The rows of 30 R94 with opcodes 0x80 to 0x8F. -/
def opcodeRows8 : List OpcodeRow := [
  ⟨0x81#8, .STA, .xInd, 6, false, fun b1 _ => .staXInd b1⟩,
  ⟨0x84#8, .STY, .zp, 3, false, fun b1 _ => .styZp b1⟩,
  ⟨0x85#8, .STA, .zp, 3, false, fun b1 _ => .staZp b1⟩,
  ⟨0x86#8, .STX, .zp, 3, false, fun b1 _ => .stxZp b1⟩,
  ⟨0x88#8, .DEY, .imp, 2, false, fun _ _ => .dey⟩,
  ⟨0x8A#8, .TXA, .imp, 2, false, fun _ _ => .txa⟩,
  ⟨0x8C#8, .STY, .abs, 4, false, fun b1 b2 => .styAbs (wordOf b2 b1)⟩,
  ⟨0x8D#8, .STA, .abs, 4, false, fun b1 b2 => .staAbs (wordOf b2 b1)⟩,
  ⟨0x8E#8, .STX, .abs, 4, false, fun b1 b2 => .stxAbs (wordOf b2 b1)⟩]

/-- The rows of 30 R94 with opcodes 0x90 to 0x9F. -/
def opcodeRows9 : List OpcodeRow := [
  ⟨0x90#8, .BCC, .rel, 2, false, fun b1 _ => .bcc (sext8 b1)⟩,
  ⟨0x91#8, .STA, .indY, 6, false, fun b1 _ => .staIndY b1⟩,
  ⟨0x94#8, .STY, .zpX, 4, false, fun b1 _ => .styZpX b1⟩,
  ⟨0x95#8, .STA, .zpX, 4, false, fun b1 _ => .staZpX b1⟩,
  ⟨0x96#8, .STX, .zpY, 4, false, fun b1 _ => .stxZpY b1⟩,
  ⟨0x98#8, .TYA, .imp, 2, false, fun _ _ => .tya⟩,
  ⟨0x99#8, .STA, .absY, 5, false, fun b1 b2 => .staAbsY (wordOf b2 b1)⟩,
  ⟨0x9A#8, .TXS, .imp, 2, false, fun _ _ => .txs⟩,
  ⟨0x9D#8, .STA, .absX, 5, false, fun b1 b2 => .staAbsX (wordOf b2 b1)⟩]

/-- The rows of 30 R94 with opcodes 0xA0 to 0xAF. -/
def opcodeRowsA : List OpcodeRow := [
  ⟨0xA0#8, .LDY, .imm, 2, false, fun b1 _ => .ldyImm b1⟩,
  ⟨0xA1#8, .LDA, .xInd, 6, false, fun b1 _ => .ldaXInd b1⟩,
  ⟨0xA2#8, .LDX, .imm, 2, false, fun b1 _ => .ldxImm b1⟩,
  ⟨0xA4#8, .LDY, .zp, 3, false, fun b1 _ => .ldyZp b1⟩,
  ⟨0xA5#8, .LDA, .zp, 3, false, fun b1 _ => .ldaZp b1⟩,
  ⟨0xA6#8, .LDX, .zp, 3, false, fun b1 _ => .ldxZp b1⟩,
  ⟨0xA8#8, .TAY, .imp, 2, false, fun _ _ => .tay⟩,
  ⟨0xA9#8, .LDA, .imm, 2, false, fun b1 _ => .ldaImm b1⟩,
  ⟨0xAA#8, .TAX, .imp, 2, false, fun _ _ => .tax⟩,
  ⟨0xAC#8, .LDY, .abs, 4, false, fun b1 b2 => .ldyAbs (wordOf b2 b1)⟩,
  ⟨0xAD#8, .LDA, .abs, 4, false, fun b1 b2 => .ldaAbs (wordOf b2 b1)⟩,
  ⟨0xAE#8, .LDX, .abs, 4, false, fun b1 b2 => .ldxAbs (wordOf b2 b1)⟩]

/-- The rows of 30 R94 with opcodes 0xB0 to 0xBF. -/
def opcodeRowsB : List OpcodeRow := [
  ⟨0xB0#8, .BCS, .rel, 2, false, fun b1 _ => .bcs (sext8 b1)⟩,
  ⟨0xB1#8, .LDA, .indY, 5, true, fun b1 _ => .ldaIndY b1⟩,
  ⟨0xB4#8, .LDY, .zpX, 4, false, fun b1 _ => .ldyZpX b1⟩,
  ⟨0xB5#8, .LDA, .zpX, 4, false, fun b1 _ => .ldaZpX b1⟩,
  ⟨0xB6#8, .LDX, .zpY, 4, false, fun b1 _ => .ldxZpY b1⟩,
  ⟨0xB8#8, .CLV, .imp, 2, false, fun _ _ => .clv⟩,
  ⟨0xB9#8, .LDA, .absY, 4, true, fun b1 b2 => .ldaAbsY (wordOf b2 b1)⟩,
  ⟨0xBA#8, .TSX, .imp, 2, false, fun _ _ => .tsx⟩,
  ⟨0xBC#8, .LDY, .absX, 4, true, fun b1 b2 => .ldyAbsX (wordOf b2 b1)⟩,
  ⟨0xBD#8, .LDA, .absX, 4, true, fun b1 b2 => .ldaAbsX (wordOf b2 b1)⟩,
  ⟨0xBE#8, .LDX, .absY, 4, true, fun b1 b2 => .ldxAbsY (wordOf b2 b1)⟩]

/-- The rows of 30 R94 with opcodes 0xC0 to 0xCF. -/
def opcodeRowsC : List OpcodeRow := [
  ⟨0xC0#8, .CPY, .imm, 2, false, fun b1 _ => .cpyImm b1⟩,
  ⟨0xC1#8, .CMP, .xInd, 6, false, fun b1 _ => .cmpXInd b1⟩,
  ⟨0xC4#8, .CPY, .zp, 3, false, fun b1 _ => .cpyZp b1⟩,
  ⟨0xC5#8, .CMP, .zp, 3, false, fun b1 _ => .cmpZp b1⟩,
  ⟨0xC6#8, .DEC, .zp, 5, false, fun b1 _ => .decZp b1⟩,
  ⟨0xC8#8, .INY, .imp, 2, false, fun _ _ => .iny⟩,
  ⟨0xC9#8, .CMP, .imm, 2, false, fun b1 _ => .cmpImm b1⟩,
  ⟨0xCA#8, .DEX, .imp, 2, false, fun _ _ => .dex⟩,
  ⟨0xCC#8, .CPY, .abs, 4, false, fun b1 b2 => .cpyAbs (wordOf b2 b1)⟩,
  ⟨0xCD#8, .CMP, .abs, 4, false, fun b1 b2 => .cmpAbs (wordOf b2 b1)⟩,
  ⟨0xCE#8, .DEC, .abs, 6, false, fun b1 b2 => .decAbs (wordOf b2 b1)⟩]

/-- The rows of 30 R94 with opcodes 0xD0 to 0xDF. -/
def opcodeRowsD : List OpcodeRow := [
  ⟨0xD0#8, .BNE, .rel, 2, false, fun b1 _ => .bne (sext8 b1)⟩,
  ⟨0xD1#8, .CMP, .indY, 5, true, fun b1 _ => .cmpIndY b1⟩,
  ⟨0xD5#8, .CMP, .zpX, 4, false, fun b1 _ => .cmpZpX b1⟩,
  ⟨0xD6#8, .DEC, .zpX, 6, false, fun b1 _ => .decZpX b1⟩,
  ⟨0xD8#8, .CLD, .imp, 2, false, fun _ _ => .cld⟩,
  ⟨0xD9#8, .CMP, .absY, 4, true, fun b1 b2 => .cmpAbsY (wordOf b2 b1)⟩,
  ⟨0xDD#8, .CMP, .absX, 4, true, fun b1 b2 => .cmpAbsX (wordOf b2 b1)⟩,
  ⟨0xDE#8, .DEC, .absX, 7, false, fun b1 b2 => .decAbsX (wordOf b2 b1)⟩]

/-- The rows of 30 R94 with opcodes 0xE0 to 0xEF. -/
def opcodeRowsE : List OpcodeRow := [
  ⟨0xE0#8, .CPX, .imm, 2, false, fun b1 _ => .cpxImm b1⟩,
  ⟨0xE1#8, .SBC, .xInd, 6, false, fun b1 _ => .sbcXInd b1⟩,
  ⟨0xE4#8, .CPX, .zp, 3, false, fun b1 _ => .cpxZp b1⟩,
  ⟨0xE5#8, .SBC, .zp, 3, false, fun b1 _ => .sbcZp b1⟩,
  ⟨0xE6#8, .INC, .zp, 5, false, fun b1 _ => .incZp b1⟩,
  ⟨0xE8#8, .INX, .imp, 2, false, fun _ _ => .inx⟩,
  ⟨0xE9#8, .SBC, .imm, 2, false, fun b1 _ => .sbcImm b1⟩,
  ⟨0xEA#8, .NOP, .imp, 2, false, fun _ _ => .nop⟩,
  ⟨0xEC#8, .CPX, .abs, 4, false, fun b1 b2 => .cpxAbs (wordOf b2 b1)⟩,
  ⟨0xED#8, .SBC, .abs, 4, false, fun b1 b2 => .sbcAbs (wordOf b2 b1)⟩,
  ⟨0xEE#8, .INC, .abs, 6, false, fun b1 b2 => .incAbs (wordOf b2 b1)⟩]

/-- The rows of 30 R94 with opcodes 0xF0 to 0xFF. -/
def opcodeRowsF : List OpcodeRow := [
  ⟨0xF0#8, .BEQ, .rel, 2, false, fun b1 _ => .beq (sext8 b1)⟩,
  ⟨0xF1#8, .SBC, .indY, 5, true, fun b1 _ => .sbcIndY b1⟩,
  ⟨0xF5#8, .SBC, .zpX, 4, false, fun b1 _ => .sbcZpX b1⟩,
  ⟨0xF6#8, .INC, .zpX, 6, false, fun b1 _ => .incZpX b1⟩,
  ⟨0xF8#8, .SED, .imp, 2, false, fun _ _ => .sed⟩,
  ⟨0xF9#8, .SBC, .absY, 4, true, fun b1 b2 => .sbcAbsY (wordOf b2 b1)⟩,
  ⟨0xFD#8, .SBC, .absX, 4, true, fun b1 b2 => .sbcAbsX (wordOf b2 b1)⟩,
  ⟨0xFE#8, .INC, .absX, 7, false, fun b1 b2 => .incAbsX (wordOf b2 b1)⟩]

/-- The opcode map of 30 R95, by the high nibble of the opcode byte. -/
def opcodeMapLine : Nat → List OpcodeRow
  | 0 => opcodeRows0
  | 1 => opcodeRows1
  | 2 => opcodeRows2
  | 3 => opcodeRows3
  | 4 => opcodeRows4
  | 5 => opcodeRows5
  | 6 => opcodeRows6
  | 7 => opcodeRows7
  | 8 => opcodeRows8
  | 9 => opcodeRows9
  | 10 => opcodeRowsA
  | 11 => opcodeRowsB
  | 12 => opcodeRowsC
  | 13 => opcodeRowsD
  | 14 => opcodeRowsE
  | 15 => opcodeRowsF
  | _ => []

/-- The opcode table: the 151 rows of 30 R94. Immutable (10 R37). -/
def opcodeTable : List OpcodeRow := (List.range 16).flatMap opcodeMapLine

/-- Decode's one lookup of the opcode byte (46 R344): absent for the 105 undefined bytes (30 R96). -/
def lookupOpcode (op : Byte) : Option OpcodeRow := (opcodeMapLine (op.toNat / 16)).find? (fun r => r.opcode == op)

/-- Why a list of bytes is no instruction. -/
inductive DecodeReject where
  /-- The first byte has no table entry (30 R96). -/
  | undefinedOpcode (op : Byte)
  /-- The list ends before the instruction does (log entry 13); the machine's fetch never meets it. -/
  | truncated (op : Byte)
  /-- The list is empty (log entry 13). -/
  | noBytes
  deriving DecidableEq, Repr

/-- The instruction at the head of a list of bytes, and the bytes after it. Operand bytes are never checked (30 R98). -/
def decode : List Byte → Except DecodeReject (Instr × List Byte)
  | [] => .error .noBytes
  | op :: rest =>
    match lookupOpcode op with
    | none => .error (.undefinedOpcode op)
    | some r =>
      match r.mode.format, rest with
      | .one, rest => .ok (r.build 0 0, rest)
      | .two, b1 :: rest => .ok (r.build b1 0, rest)
      | .two, [] => .error (.truncated op)
      | .three, b1 :: b2 :: rest => .ok (r.build b1 b2, rest)
      | .three, [_] => .error (.truncated op)
      | .three, [] => .error (.truncated op)

/-- The instruction of a word numbered as the opcode table numbers it: byte k of the instruction is bits `8k+7 .. 8k`, and
every bit above `nbits` is 0. -/
def wordBytes (nbits w : Nat) : List Byte :=
  let v := w % 2 ^ nbits
  [BitVec.ofNat 8 v, BitVec.ofNat 8 (v / 256), BitVec.ofNat 8 (v / 65536)]

/-- The instruction the decoder reads from a table word of `nbits` bits. -/
def decodeTableWord (nbits w : Nat) : Option Instr :=
  match decode (wordBytes nbits w) with
  | .ok (i, _) => some i
  | .error _ => none

/-! The encoder. -/

/-- The opcode byte of an instruction (30 R94). -/
def Instr.opcode : Instr → Byte
  | .brk => 0x00#8
  | .oraXInd _ => 0x01#8
  | .oraZp _ => 0x05#8
  | .aslZp _ => 0x06#8
  | .php => 0x08#8
  | .oraImm _ => 0x09#8
  | .aslAcc => 0x0A#8
  | .oraAbs _ => 0x0D#8
  | .aslAbs _ => 0x0E#8
  | .bpl _ => 0x10#8
  | .oraIndY _ => 0x11#8
  | .oraZpX _ => 0x15#8
  | .aslZpX _ => 0x16#8
  | .clc => 0x18#8
  | .oraAbsY _ => 0x19#8
  | .oraAbsX _ => 0x1D#8
  | .aslAbsX _ => 0x1E#8
  | .jsr _ => 0x20#8
  | .andXInd _ => 0x21#8
  | .bitZp _ => 0x24#8
  | .andZp _ => 0x25#8
  | .rolZp _ => 0x26#8
  | .plp => 0x28#8
  | .andImm _ => 0x29#8
  | .rolAcc => 0x2A#8
  | .bitAbs _ => 0x2C#8
  | .andAbs _ => 0x2D#8
  | .rolAbs _ => 0x2E#8
  | .bmi _ => 0x30#8
  | .andIndY _ => 0x31#8
  | .andZpX _ => 0x35#8
  | .rolZpX _ => 0x36#8
  | .sec => 0x38#8
  | .andAbsY _ => 0x39#8
  | .andAbsX _ => 0x3D#8
  | .rolAbsX _ => 0x3E#8
  | .rti => 0x40#8
  | .eorXInd _ => 0x41#8
  | .eorZp _ => 0x45#8
  | .lsrZp _ => 0x46#8
  | .pha => 0x48#8
  | .eorImm _ => 0x49#8
  | .lsrAcc => 0x4A#8
  | .jmpAbs _ => 0x4C#8
  | .eorAbs _ => 0x4D#8
  | .lsrAbs _ => 0x4E#8
  | .bvc _ => 0x50#8
  | .eorIndY _ => 0x51#8
  | .eorZpX _ => 0x55#8
  | .lsrZpX _ => 0x56#8
  | .cli => 0x58#8
  | .eorAbsY _ => 0x59#8
  | .eorAbsX _ => 0x5D#8
  | .lsrAbsX _ => 0x5E#8
  | .rts => 0x60#8
  | .adcXInd _ => 0x61#8
  | .adcZp _ => 0x65#8
  | .rorZp _ => 0x66#8
  | .pla => 0x68#8
  | .adcImm _ => 0x69#8
  | .rorAcc => 0x6A#8
  | .jmpInd _ => 0x6C#8
  | .adcAbs _ => 0x6D#8
  | .rorAbs _ => 0x6E#8
  | .bvs _ => 0x70#8
  | .adcIndY _ => 0x71#8
  | .adcZpX _ => 0x75#8
  | .rorZpX _ => 0x76#8
  | .sei => 0x78#8
  | .adcAbsY _ => 0x79#8
  | .adcAbsX _ => 0x7D#8
  | .rorAbsX _ => 0x7E#8
  | .staXInd _ => 0x81#8
  | .styZp _ => 0x84#8
  | .staZp _ => 0x85#8
  | .stxZp _ => 0x86#8
  | .dey => 0x88#8
  | .txa => 0x8A#8
  | .styAbs _ => 0x8C#8
  | .staAbs _ => 0x8D#8
  | .stxAbs _ => 0x8E#8
  | .bcc _ => 0x90#8
  | .staIndY _ => 0x91#8
  | .styZpX _ => 0x94#8
  | .staZpX _ => 0x95#8
  | .stxZpY _ => 0x96#8
  | .tya => 0x98#8
  | .staAbsY _ => 0x99#8
  | .txs => 0x9A#8
  | .staAbsX _ => 0x9D#8
  | .ldyImm _ => 0xA0#8
  | .ldaXInd _ => 0xA1#8
  | .ldxImm _ => 0xA2#8
  | .ldyZp _ => 0xA4#8
  | .ldaZp _ => 0xA5#8
  | .ldxZp _ => 0xA6#8
  | .tay => 0xA8#8
  | .ldaImm _ => 0xA9#8
  | .tax => 0xAA#8
  | .ldyAbs _ => 0xAC#8
  | .ldaAbs _ => 0xAD#8
  | .ldxAbs _ => 0xAE#8
  | .bcs _ => 0xB0#8
  | .ldaIndY _ => 0xB1#8
  | .ldyZpX _ => 0xB4#8
  | .ldaZpX _ => 0xB5#8
  | .ldxZpY _ => 0xB6#8
  | .clv => 0xB8#8
  | .ldaAbsY _ => 0xB9#8
  | .tsx => 0xBA#8
  | .ldyAbsX _ => 0xBC#8
  | .ldaAbsX _ => 0xBD#8
  | .ldxAbsY _ => 0xBE#8
  | .cpyImm _ => 0xC0#8
  | .cmpXInd _ => 0xC1#8
  | .cpyZp _ => 0xC4#8
  | .cmpZp _ => 0xC5#8
  | .decZp _ => 0xC6#8
  | .iny => 0xC8#8
  | .cmpImm _ => 0xC9#8
  | .dex => 0xCA#8
  | .cpyAbs _ => 0xCC#8
  | .cmpAbs _ => 0xCD#8
  | .decAbs _ => 0xCE#8
  | .bne _ => 0xD0#8
  | .cmpIndY _ => 0xD1#8
  | .cmpZpX _ => 0xD5#8
  | .decZpX _ => 0xD6#8
  | .cld => 0xD8#8
  | .cmpAbsY _ => 0xD9#8
  | .cmpAbsX _ => 0xDD#8
  | .decAbsX _ => 0xDE#8
  | .cpxImm _ => 0xE0#8
  | .sbcXInd _ => 0xE1#8
  | .cpxZp _ => 0xE4#8
  | .sbcZp _ => 0xE5#8
  | .incZp _ => 0xE6#8
  | .inx => 0xE8#8
  | .sbcImm _ => 0xE9#8
  | .nop => 0xEA#8
  | .cpxAbs _ => 0xEC#8
  | .sbcAbs _ => 0xED#8
  | .incAbs _ => 0xEE#8
  | .beq _ => 0xF0#8
  | .sbcIndY _ => 0xF1#8
  | .sbcZpX _ => 0xF5#8
  | .incZpX _ => 0xF6#8
  | .sed => 0xF8#8
  | .sbcAbsY _ => 0xF9#8
  | .sbcAbsX _ => 0xFD#8
  | .incAbsX _ => 0xFE#8

/-- The operand bytes of a memory operand form: the byte itself, or the low byte and then the high byte (30 R91, R92). -/
def MemForm.bytes : MemForm → List Byte
  | .imm b | .zp b | .zpX b | .zpY b | .xInd b | .indY b => [b]
  | .abs w | .absX w | .absY w | .ind w => [lowByte w, highByte w]

/-- The operand bytes of an operand (30 R91, R92); a displacement is its two's-complement byte. -/
def Operand.bytes : Operand → List Byte
  | .acc | .imp => []
  | .mem f => f.bytes
  | .rel d => [BitVec.ofInt 8 d]

/-- The bytes of an instruction, at rising addresses (30 R90). -/
def encode (i : Instr) : List Byte := i.opcode :: i.operand.bytes

/-- The base cycles the opcode table gives an instruction's row (30 R94, 46 R344), read through its opcode byte. -/
def Instr.tableBase (i : Instr) : Option Nat := (lookupOpcode i.opcode).map OpcodeRow.base

end Sys2Proof
end

