-- ==== Sys2Proof/Machine/Memory.lean ====
section
/-! DEFINITION. Memory: reading and writing one byte, and the canonical form both keep (20 R60 to R63). -/

namespace Sys2Proof.Machine

/-- The byte an address holds; an address that is not listed holds `Config.unlistedByte`. -/
def Memory.read : Memory → Nat → Byte
  | [], _ => Config.unlistedByte
  | (k, v) :: m, a => if k = a then v else Memory.read m a

/-- List a byte at an address that is not listed, before the first higher address. -/
def Memory.insert : Memory → Nat → Byte → Memory
  | [], a, v => [(a, v)]
  | (k, w) :: m, a, v => if a < k then (a, v) :: (k, w) :: m else (k, w) :: Memory.insert m a v

/-- Unlist an address. -/
def Memory.erase (m : Memory) (a : Nat) : Memory := m.filter (fun c => c.1 != a)

/-- Write a byte. Writing what an unlisted address holds unlists the address, so equal memories are equal lists. -/
def Memory.write (m : Memory) (a : Nat) (v : Byte) : Memory :=
  if v = Config.unlistedByte then m.erase a else (m.erase a).insert a v

/-- The canonical form: addresses strictly rising and inside the 65536 bytes of 20 R60, and no entry that an unlisted
address would read as. -/
abbrev Memory.wf (m : Memory) : Prop :=
  List.Pairwise (fun c d => c.1 < d.1) m ∧ ∀ c ∈ m, c.1 < 65536 ∧ c.2 ≠ Config.unlistedByte

/-- `MemRead(a)` (20 R62). The address is 16 bits wide, so it is reduced modulo 65536 (20 R61). It changes no state. -/
def State.read (s : State) (a : Address) : Byte := s.mem.read a.toNat

/-- `MemWrite(a, v)` (20 R63): every address is writable, and nothing else changes. -/
def State.write (s : State) (a : Address) (v : Byte) : State := { s with mem := s.mem.write a.toNat v }

end Sys2Proof.Machine
end

