-- ==== Sys2Proof/Machine/Operands.lean ====
section
/-! DEFINITION. The operand resolver (40 R120 to R137): a pure function of the operand bytes, X, Y, the advanced PC and, for
the indirect modes, memory. It writes nothing (40 R121). -/

namespace Sys2Proof.Machine

/-- The resolver's answer for a mode that names an address: `Addr(a)` or `AddrPC(a, crossed)` (40 R120). -/
inductive MemOperand where
  | addr (a : Address)
  | addrPC (a : Address) (crossed : Bool)
  deriving DecidableEq, Repr

/-- The Resolved Operand: `Acc`, `Imp`, an address with or without a page-crossing report, or `Disp(d)` (40 R120). -/
inductive Resolved where
  | acc
  | imp
  | mem (m : MemOperand)
  | disp (d : Int)
  deriving DecidableEq, Repr

/-- `addr(op)`: an executor treats `Addr(a)` and `AddrPC(a, c)` alike as the address `a` (40 R136). -/
def MemOperand.address : MemOperand → Address
  | .addr a => a
  | .addrPC a _ => a

/-- The page-crossing penalty of a read instruction: 1 when `op = AddrPC(_, true)`, else 0 (46 R350). -/
def MemOperand.penalty : MemOperand → Nat
  | .addr _ => 0
  | .addrPC _ crossed => if crossed then 1 else 0

/-- An address in the zero page (20 R67). -/
def zeroPage (b : Byte) : Address := b.setWidth 16

/-- Immediate (40 R124): the operand byte's own location, `PC - 1`, since PC has already advanced past the instruction. -/
def resolveImm (s : State) : MemOperand := .addr (s.PC - 1)

/-- Zeropage (40 R125). -/
def resolveZp (b : Byte) : MemOperand := .addr (zeroPage b)

/-- Zeropage,X and Zeropage,Y (40 R126, R127): the sum wraps within the zero page, with no carry into page 1. -/
def resolveZpIndexed (b reg : Byte) : MemOperand := .addr (zeroPage (b + reg))

/-- Absolute (40 R128). -/
def resolveAbs (w : Address) : MemOperand := .addr w

/-- Absolute,X and Absolute,Y (40 R129, R130): 16-bit wrap; page-crossed iff `lo + reg > 0xFF`. -/
def resolveAbsIndexed (w : Address) (reg : Byte) : MemOperand :=
  .addrPC (w + reg.setWidth 16) (decide ((lowByte w).toNat + reg.toNat > 0xFF))

/-- The little-endian word whose low byte is at an address and whose high byte is at the next address of the same page: the
low byte of the address wraps (40 R131 to R133). -/
def readWordInPage (s : State) (a : Address) : Address :=
  wordOf (s.read (wordOf (highByte a) (lowByte a + 1))) (s.read a)

/-- Indirect (40 R131), with the page-boundary fetch bug: "low byte wraps within the same page". -/
def resolveInd (w : Address) (s : State) : MemOperand := .addr (readWordInPage s w)

/-- X-Indexed Indirect (40 R132): both pointer bytes are read in the zero page, wrapped modulo 256. -/
def resolveXInd (b : Byte) (s : State) : MemOperand := .addr (readWordInPage s (zeroPage (b + s.X)))

/-- Indirect,Y-Indexed (40 R133): the zero-page pointer plus Y, with carry; page-crossed iff low byte + Y > 0xFF. -/
def resolveIndY (b : Byte) (s : State) : MemOperand := resolveAbsIndexed (readWordInPage s (zeroPage b)) s.Y

/-- The resolver on a memory operand form, in a state whose PC has advanced (46 R347). -/
def resolveMem (f : MemForm) (s : State) : MemOperand :=
  match f with
  | .imm _ => resolveImm s
  | .zp b => resolveZp b
  | .zpX b => resolveZpIndexed b s.X
  | .zpY b => resolveZpIndexed b s.Y
  | .xInd b => resolveXInd b s
  | .indY b => resolveIndY b s
  | .abs w => resolveAbs w
  | .absX w => resolveAbsIndexed w s.X
  | .absY w => resolveAbsIndexed w s.Y
  | .ind w => resolveInd w s

/-- The resolver on an operand of any of the thirteen modes (40 R121, R137). -/
def resolve (o : Operand) (s : State) : Resolved :=
  match o with
  | .acc => .acc
  | .imp => .imp
  | .mem f => .mem (resolveMem f s)
  | .rel d => .disp d

end Sys2Proof.Machine
end

