-- ==== Sys2Proof/Machine/Ops.lean ====
section
/-! DEFINITION. The named operations over registers, memory, the stack and the counters that the meanings share; taking the
trap and the decode error, and the return from a trap; and how an instruction's executor is run (46 R343). -/

namespace Sys2Proof.Machine

/-! Register writes, one per register and counter. -/

/-- `A <- v`. -/
def State.setA (s : State) (v : Byte) : State := { s with A := v }
/-- `X <- v`. -/
def State.setX (s : State) (v : Byte) : State := { s with X := v }
/-- `Y <- v`. -/
def State.setY (s : State) (v : Byte) : State := { s with Y := v }
/-- `SP <- v`. -/
def State.setSP (s : State) (v : Byte) : State := { s with SP := v }
/-- `PC <- a`; 16 bits, so reduced modulo 65536 (10 R24). -/
def State.setPC (s : State) (a : Address) : State := { s with PC := a }
/-- `P <- v`. -/
def State.setP (s : State) (v : Byte) : State := { s with P := v }
/-- `remaining <- n`. -/
def State.setRemaining (s : State) (n : Nat) : State := { s with remaining := n }
/-- `total <- n`. -/
def State.setTotal (s : State) (n : Nat) : State := { s with total := n }
/-- `halted <- h`. -/
def State.setHalted (s : State) (h : Option DecodeError) : State := { s with halted := h }

/-- `A <- v; SetZN(v)`: "every write of A also writes P.Z and P.N from the new value" (10 R21). -/
def State.loadA (s : State) (v : Byte) : State := (s.setA v).setZN v
/-- `X <- v; SetZN(v)` (10 R22). -/
def State.loadX (s : State) (v : Byte) : State := (s.setX v).setZN v
/-- `Y <- v; SetZN(v)` (10 R23). -/
def State.loadY (s : State) (v : Byte) : State := (s.setY v).setZN v

/-! The stack (20 R68, R71 to R73). -/

/-- The stack address `0x0100 + SP` (20 R68). -/
def stackAddr (sp : Byte) : Address := 0x0100#16 + sp.setWidth 16

/-- `Push(v)`: write at `0x0100 + SP`, then decrement SP modulo 256 (20 R71). -/
def State.push (s : State) (v : Byte) : State := (s.write (stackAddr s.SP) v).setSP (s.SP - 1)

/-- The state part of `Pull()`: increment SP modulo 256 (20 R72). -/
def State.pop (s : State) : State := s.setSP (s.SP + 1)

/-- The byte part of `Pull()`: the byte at `0x0100 + SP` for the incremented SP (20 R72). -/
def State.top (s : State) : Byte := s.read (stackAddr s.pop.SP)

/-- `Push(w >> 8); Push(w & 0xFF)`: a return address, high byte first (44 R280, 45 R311). -/
def State.pushWord (s : State) (w : Address) : State := (s.push (highByte w)).push (lowByte w)

/-- `ReadWord(a)` (20 R64): low byte at the lower address. -/
def State.readWord (s : State) (a : Address) : Address := wordOf (s.read (a + 1)) (s.read a)

/-! The vectors (20 R69). The NMI vector at 0xFFFA is read by nothing. -/

/-- The Reset vector. -/
def resetVector : Address := 0xFFFC#16
/-- The IRQ/BRK vector. -/
def breakVector : Address := 0xFFFE#16

/-! Running one instruction (46 R343). -/

/-- What an executor leaves: the state, and the penalty the sequencer adds to the base cycles (46 R348). -/
structure Effect where
  post : State
  penalty : Nat

/-- An effect with no penalty (46 R352). -/
def State.noPenalty (s : State) : Effect := ⟨s, 0⟩

/-- `PC <- (PC0 + size) & 0xFFFF` (46 R345). -/
def State.advance (s : State) (size : Nat) : State := s.setPC (s.PC + BitVec.ofNat 16 size)

/-- Run an instruction of a given size and base cost: advance PC, run the executor in the advanced state, and set
`remaining <- base + penalty` (46 R343, R345, R347, R348). The step's own tick follows (46 R349, log entry 7). -/
def runInstr (size base : Nat) (body : State → Effect) (s : State) : Host.Outcome State Fault Refusal :=
  let e := body (s.advance size)
  .next (e.post.setRemaining (base + e.penalty))

/-- Run an instruction whose operand names an address: the resolver, then the executor (46 R347). -/
def execMem (base : Nat) (executor : MemOperand → State → Effect) (f : MemForm) (s : State) :
    Host.Outcome State Fault Refusal :=
  runInstr f.mode.size base (fun s1 => executor (resolveMem f s1) s1) s

/-- Run an Implied or Accumulator instruction, 1 byte and with no penalty (30 R91, 46 R352). -/
def execOne (base : Nat) (executor : State → State) (s : State) : Host.Outcome State Fault Refusal :=
  runInstr 1 base (fun s1 => (executor s1).noPenalty) s

/-- The tick every step that is not halted makes: `remaining <- remaining - 1; total <- total + 1` (46 R342, R349). -/
def State.tick (s : State) : State := (s.setRemaining (s.remaining - 1)).setTotal (s.total + 1)

/-! Exceptions. -/

/-- Trap entry (45 R311, 60 R384), in a state whose PC has advanced: push the return address `PC + 1` (= PC0 + 2) high byte
first, push P with B and bit 5 set, set P.I, and go through the vector at 0xFFFE. The register's B and bit 5 are not written. -/
def State.takeBreak (s : State) : State :=
  let s1 := (s.pushWord (s.PC + 1)).push (pushedStatus s.P)
  let s2 := s1.setFlag .I true
  s2.setPC (s2.readWord breakVector)

/-- Trap return (45 R312, 60 R385): pull P with B and bit 5 cleared, then PC low and high, "with no +1 adjustment". -/
def State.returnFromBreak (s : State) : State :=
  let s1 := s.pop.setP (pulledStatus s.top)
  let lo := s1.top
  let s2 := s1.pop
  let hi := s2.top
  s2.pop.setPC (wordOf hi lo)

/-- Raising a decode error (60 R381): latch the byte and its address, and change nothing else. -/
def State.raiseDecodeError (s : State) (byte : Byte) (addr : Address) : State := s.setHalted (some ⟨byte, addr⟩)

end Sys2Proof.Machine
end

