-- ==== Sys2Proof/Machine/Arith.lean ====
section
/-! DEFINITION. Arithmetic, logic, compare, increment and decrement (42 R200 to R224): for each mnemonic its executor, then one meaning
per row. -/

namespace Sys2Proof.Machine

/-- `A <- r; P.C <- C'; P.V <- V'; SetZN(r)`: what ADC and SBC write (42 R210, R211). -/
def State.writeSum (s : State) (r : CoreResult) : State :=
  (((s.setA r.result).setFlag .C r.carry).setFlag .V r.overflow).setZN r.result

/-- ADC (42 R210). -/
def adcOp (op : MemOperand) (s : State) : Effect :=
  ⟨s.writeSum (addCore s.A (s.read op.address) (s.flag .C)), op.penalty⟩

/-- ADC, XIND, opcode 0x61, base 6 (30 R94). -/
def execAdcXInd (b : Byte) (s : State) : Host.Outcome State Fault Refusal :=
  execMem 6 adcOp (.xInd b) s

/-- ADC, ZP, opcode 0x65, base 3 (30 R94). -/
def execAdcZp (b : Byte) (s : State) : Host.Outcome State Fault Refusal :=
  execMem 3 adcOp (.zp b) s

/-- ADC, IMM, opcode 0x69, base 2 (30 R94). -/
def execAdcImm (b : Byte) (s : State) : Host.Outcome State Fault Refusal :=
  execMem 2 adcOp (.imm b) s

/-- ADC, ABS, opcode 0x6D, base 4 (30 R94). -/
def execAdcAbs (w : Address) (s : State) : Host.Outcome State Fault Refusal :=
  execMem 4 adcOp (.abs w) s

/-- ADC, INDY, opcode 0x71, base 5 (30 R94). -/
def execAdcIndY (b : Byte) (s : State) : Host.Outcome State Fault Refusal :=
  execMem 5 adcOp (.indY b) s

/-- ADC, ZPX, opcode 0x75, base 4 (30 R94). -/
def execAdcZpX (b : Byte) (s : State) : Host.Outcome State Fault Refusal :=
  execMem 4 adcOp (.zpX b) s

/-- ADC, ABSY, opcode 0x79, base 4 (30 R94). -/
def execAdcAbsY (w : Address) (s : State) : Host.Outcome State Fault Refusal :=
  execMem 4 adcOp (.absY w) s

/-- ADC, ABSX, opcode 0x7D, base 4 (30 R94). -/
def execAdcAbsX (w : Address) (s : State) : Host.Outcome State Fault Refusal :=
  execMem 4 adcOp (.absX w) s

/-- SBC (42 R211). -/
def sbcOp (op : MemOperand) (s : State) : Effect :=
  ⟨s.writeSum (subCore s.A (s.read op.address) (s.flag .C)), op.penalty⟩

/-- SBC, XIND, opcode 0xE1, base 6 (30 R94). -/
def execSbcXInd (b : Byte) (s : State) : Host.Outcome State Fault Refusal :=
  execMem 6 sbcOp (.xInd b) s

/-- SBC, ZP, opcode 0xE5, base 3 (30 R94). -/
def execSbcZp (b : Byte) (s : State) : Host.Outcome State Fault Refusal :=
  execMem 3 sbcOp (.zp b) s

/-- SBC, IMM, opcode 0xE9, base 2 (30 R94). -/
def execSbcImm (b : Byte) (s : State) : Host.Outcome State Fault Refusal :=
  execMem 2 sbcOp (.imm b) s

/-- SBC, ABS, opcode 0xED, base 4 (30 R94). -/
def execSbcAbs (w : Address) (s : State) : Host.Outcome State Fault Refusal :=
  execMem 4 sbcOp (.abs w) s

/-- SBC, INDY, opcode 0xF1, base 5 (30 R94). -/
def execSbcIndY (b : Byte) (s : State) : Host.Outcome State Fault Refusal :=
  execMem 5 sbcOp (.indY b) s

/-- SBC, ZPX, opcode 0xF5, base 4 (30 R94). -/
def execSbcZpX (b : Byte) (s : State) : Host.Outcome State Fault Refusal :=
  execMem 4 sbcOp (.zpX b) s

/-- SBC, ABSY, opcode 0xF9, base 4 (30 R94). -/
def execSbcAbsY (w : Address) (s : State) : Host.Outcome State Fault Refusal :=
  execMem 4 sbcOp (.absY w) s

/-- SBC, ABSX, opcode 0xFD, base 4 (30 R94). -/
def execSbcAbsX (w : Address) (s : State) : Host.Outcome State Fault Refusal :=
  execMem 4 sbcOp (.absX w) s

/-- AND (42 R212). -/
def andOp (op : MemOperand) (s : State) : Effect :=
  ⟨s.loadA (s.A &&& s.read op.address), op.penalty⟩

/-- AND, XIND, opcode 0x21, base 6 (30 R94). -/
def execAndXInd (b : Byte) (s : State) : Host.Outcome State Fault Refusal :=
  execMem 6 andOp (.xInd b) s

/-- AND, ZP, opcode 0x25, base 3 (30 R94). -/
def execAndZp (b : Byte) (s : State) : Host.Outcome State Fault Refusal :=
  execMem 3 andOp (.zp b) s

/-- AND, IMM, opcode 0x29, base 2 (30 R94). -/
def execAndImm (b : Byte) (s : State) : Host.Outcome State Fault Refusal :=
  execMem 2 andOp (.imm b) s

/-- AND, ABS, opcode 0x2D, base 4 (30 R94). -/
def execAndAbs (w : Address) (s : State) : Host.Outcome State Fault Refusal :=
  execMem 4 andOp (.abs w) s

/-- AND, INDY, opcode 0x31, base 5 (30 R94). -/
def execAndIndY (b : Byte) (s : State) : Host.Outcome State Fault Refusal :=
  execMem 5 andOp (.indY b) s

/-- AND, ZPX, opcode 0x35, base 4 (30 R94). -/
def execAndZpX (b : Byte) (s : State) : Host.Outcome State Fault Refusal :=
  execMem 4 andOp (.zpX b) s

/-- AND, ABSY, opcode 0x39, base 4 (30 R94). -/
def execAndAbsY (w : Address) (s : State) : Host.Outcome State Fault Refusal :=
  execMem 4 andOp (.absY w) s

/-- AND, ABSX, opcode 0x3D, base 4 (30 R94). -/
def execAndAbsX (w : Address) (s : State) : Host.Outcome State Fault Refusal :=
  execMem 4 andOp (.absX w) s

/-- ORA (42 R213). -/
def oraOp (op : MemOperand) (s : State) : Effect :=
  ⟨s.loadA (s.A ||| s.read op.address), op.penalty⟩

/-- ORA, XIND, opcode 0x01, base 6 (30 R94). -/
def execOraXInd (b : Byte) (s : State) : Host.Outcome State Fault Refusal :=
  execMem 6 oraOp (.xInd b) s

/-- ORA, ZP, opcode 0x05, base 3 (30 R94). -/
def execOraZp (b : Byte) (s : State) : Host.Outcome State Fault Refusal :=
  execMem 3 oraOp (.zp b) s

/-- ORA, IMM, opcode 0x09, base 2 (30 R94). -/
def execOraImm (b : Byte) (s : State) : Host.Outcome State Fault Refusal :=
  execMem 2 oraOp (.imm b) s

/-- ORA, ABS, opcode 0x0D, base 4 (30 R94). -/
def execOraAbs (w : Address) (s : State) : Host.Outcome State Fault Refusal :=
  execMem 4 oraOp (.abs w) s

/-- ORA, INDY, opcode 0x11, base 5 (30 R94). -/
def execOraIndY (b : Byte) (s : State) : Host.Outcome State Fault Refusal :=
  execMem 5 oraOp (.indY b) s

/-- ORA, ZPX, opcode 0x15, base 4 (30 R94). -/
def execOraZpX (b : Byte) (s : State) : Host.Outcome State Fault Refusal :=
  execMem 4 oraOp (.zpX b) s

/-- ORA, ABSY, opcode 0x19, base 4 (30 R94). -/
def execOraAbsY (w : Address) (s : State) : Host.Outcome State Fault Refusal :=
  execMem 4 oraOp (.absY w) s

/-- ORA, ABSX, opcode 0x1D, base 4 (30 R94). -/
def execOraAbsX (w : Address) (s : State) : Host.Outcome State Fault Refusal :=
  execMem 4 oraOp (.absX w) s

/-- EOR (42 R214). -/
def eorOp (op : MemOperand) (s : State) : Effect :=
  ⟨s.loadA (s.A ^^^ s.read op.address), op.penalty⟩

/-- EOR, XIND, opcode 0x41, base 6 (30 R94). -/
def execEorXInd (b : Byte) (s : State) : Host.Outcome State Fault Refusal :=
  execMem 6 eorOp (.xInd b) s

/-- EOR, ZP, opcode 0x45, base 3 (30 R94). -/
def execEorZp (b : Byte) (s : State) : Host.Outcome State Fault Refusal :=
  execMem 3 eorOp (.zp b) s

/-- EOR, IMM, opcode 0x49, base 2 (30 R94). -/
def execEorImm (b : Byte) (s : State) : Host.Outcome State Fault Refusal :=
  execMem 2 eorOp (.imm b) s

/-- EOR, ABS, opcode 0x4D, base 4 (30 R94). -/
def execEorAbs (w : Address) (s : State) : Host.Outcome State Fault Refusal :=
  execMem 4 eorOp (.abs w) s

/-- EOR, INDY, opcode 0x51, base 5 (30 R94). -/
def execEorIndY (b : Byte) (s : State) : Host.Outcome State Fault Refusal :=
  execMem 5 eorOp (.indY b) s

/-- EOR, ZPX, opcode 0x55, base 4 (30 R94). -/
def execEorZpX (b : Byte) (s : State) : Host.Outcome State Fault Refusal :=
  execMem 4 eorOp (.zpX b) s

/-- EOR, ABSY, opcode 0x59, base 4 (30 R94). -/
def execEorAbsY (w : Address) (s : State) : Host.Outcome State Fault Refusal :=
  execMem 4 eorOp (.absY w) s

/-- EOR, ABSX, opcode 0x5D, base 4 (30 R94). -/
def execEorAbsX (w : Address) (s : State) : Host.Outcome State Fault Refusal :=
  execMem 4 eorOp (.absX w) s

/-- BIT (42 R215): Z from `A & m`, N and V from the operand's bits 7 and 6. A is not written. -/
def bitOp (op : MemOperand) (s : State) : Effect :=
  let m := s.read op.address
  (((s.setFlag .Z (decide (s.A &&& m = 0#8))).setFlag .N (m.getLsbD 7)).setFlag .V (m.getLsbD 6)).noPenalty

/-- BIT, ZP, opcode 0x24, base 3 (30 R94). -/
def execBitZp (b : Byte) (s : State) : Host.Outcome State Fault Refusal :=
  execMem 3 bitOp (.zp b) s

/-- BIT, ABS, opcode 0x2C, base 4 (30 R94). -/
def execBitAbs (w : Address) (s : State) : Host.Outcome State Fault Refusal :=
  execMem 4 bitOp (.abs w) s

/-- CMP (42 R216). -/
def cmpOp (op : MemOperand) (s : State) : Effect :=
  ⟨s.compare s.A (s.read op.address), op.penalty⟩

/-- CMP, XIND, opcode 0xC1, base 6 (30 R94). -/
def execCmpXInd (b : Byte) (s : State) : Host.Outcome State Fault Refusal :=
  execMem 6 cmpOp (.xInd b) s

/-- CMP, ZP, opcode 0xC5, base 3 (30 R94). -/
def execCmpZp (b : Byte) (s : State) : Host.Outcome State Fault Refusal :=
  execMem 3 cmpOp (.zp b) s

/-- CMP, IMM, opcode 0xC9, base 2 (30 R94). -/
def execCmpImm (b : Byte) (s : State) : Host.Outcome State Fault Refusal :=
  execMem 2 cmpOp (.imm b) s

/-- CMP, ABS, opcode 0xCD, base 4 (30 R94). -/
def execCmpAbs (w : Address) (s : State) : Host.Outcome State Fault Refusal :=
  execMem 4 cmpOp (.abs w) s

/-- CMP, INDY, opcode 0xD1, base 5 (30 R94). -/
def execCmpIndY (b : Byte) (s : State) : Host.Outcome State Fault Refusal :=
  execMem 5 cmpOp (.indY b) s

/-- CMP, ZPX, opcode 0xD5, base 4 (30 R94). -/
def execCmpZpX (b : Byte) (s : State) : Host.Outcome State Fault Refusal :=
  execMem 4 cmpOp (.zpX b) s

/-- CMP, ABSY, opcode 0xD9, base 4 (30 R94). -/
def execCmpAbsY (w : Address) (s : State) : Host.Outcome State Fault Refusal :=
  execMem 4 cmpOp (.absY w) s

/-- CMP, ABSX, opcode 0xDD, base 4 (30 R94). -/
def execCmpAbsX (w : Address) (s : State) : Host.Outcome State Fault Refusal :=
  execMem 4 cmpOp (.absX w) s

/-- CPX (42 R217): no indexed form, so no penalty. -/
def cpxOp (op : MemOperand) (s : State) : Effect :=
  (s.compare s.X (s.read op.address)).noPenalty

/-- CPX, IMM, opcode 0xE0, base 2 (30 R94). -/
def execCpxImm (b : Byte) (s : State) : Host.Outcome State Fault Refusal :=
  execMem 2 cpxOp (.imm b) s

/-- CPX, ZP, opcode 0xE4, base 3 (30 R94). -/
def execCpxZp (b : Byte) (s : State) : Host.Outcome State Fault Refusal :=
  execMem 3 cpxOp (.zp b) s

/-- CPX, ABS, opcode 0xEC, base 4 (30 R94). -/
def execCpxAbs (w : Address) (s : State) : Host.Outcome State Fault Refusal :=
  execMem 4 cpxOp (.abs w) s

/-- CPY (42 R218): no indexed form, so no penalty. -/
def cpyOp (op : MemOperand) (s : State) : Effect :=
  (s.compare s.Y (s.read op.address)).noPenalty

/-- CPY, IMM, opcode 0xC0, base 2 (30 R94). -/
def execCpyImm (b : Byte) (s : State) : Host.Outcome State Fault Refusal :=
  execMem 2 cpyOp (.imm b) s

/-- CPY, ZP, opcode 0xC4, base 3 (30 R94). -/
def execCpyZp (b : Byte) (s : State) : Host.Outcome State Fault Refusal :=
  execMem 3 cpyOp (.zp b) s

/-- CPY, ABS, opcode 0xCC, base 4 (30 R94). -/
def execCpyAbs (w : Address) (s : State) : Host.Outcome State Fault Refusal :=
  execMem 4 cpyOp (.abs w) s

/-- `MemWrite(a, r); SetZN(r)`: how a read-modify-write instruction ends (42 R219, R220, 43 R250). -/
def State.writeBack (s : State) (a : Address) (r : Byte) : State := (s.write a r).setZN r

/-- INC (42 R219): the crossing flag is ignored. -/
def incOp (op : MemOperand) (s : State) : Effect :=
  (s.writeBack op.address (s.read op.address + 1)).noPenalty

/-- INC, ZP, opcode 0xE6, base 5 (30 R94). -/
def execIncZp (b : Byte) (s : State) : Host.Outcome State Fault Refusal :=
  execMem 5 incOp (.zp b) s

/-- INC, ABS, opcode 0xEE, base 6 (30 R94). -/
def execIncAbs (w : Address) (s : State) : Host.Outcome State Fault Refusal :=
  execMem 6 incOp (.abs w) s

/-- INC, ZPX, opcode 0xF6, base 6 (30 R94). -/
def execIncZpX (b : Byte) (s : State) : Host.Outcome State Fault Refusal :=
  execMem 6 incOp (.zpX b) s

/-- INC, ABSX, opcode 0xFE, base 7 (30 R94). -/
def execIncAbsX (w : Address) (s : State) : Host.Outcome State Fault Refusal :=
  execMem 7 incOp (.absX w) s

/-- DEC (42 R220): the crossing flag is ignored. -/
def decOp (op : MemOperand) (s : State) : Effect :=
  (s.writeBack op.address (s.read op.address - 1)).noPenalty

/-- DEC, ZP, opcode 0xC6, base 5 (30 R94). -/
def execDecZp (b : Byte) (s : State) : Host.Outcome State Fault Refusal :=
  execMem 5 decOp (.zp b) s

/-- DEC, ABS, opcode 0xCE, base 6 (30 R94). -/
def execDecAbs (w : Address) (s : State) : Host.Outcome State Fault Refusal :=
  execMem 6 decOp (.abs w) s

/-- DEC, ZPX, opcode 0xD6, base 6 (30 R94). -/
def execDecZpX (b : Byte) (s : State) : Host.Outcome State Fault Refusal :=
  execMem 6 decOp (.zpX b) s

/-- DEC, ABSX, opcode 0xDE, base 7 (30 R94). -/
def execDecAbsX (w : Address) (s : State) : Host.Outcome State Fault Refusal :=
  execMem 7 decOp (.absX w) s

/-- INX (42 R221). -/
def inxOp (s : State) : State := s.loadX (s.X + 1)

/-- INX, IMP, opcode 0xE8, base 2 (30 R94). -/
def execInx (s : State) : Host.Outcome State Fault Refusal :=
  execOne 2 inxOp s

/-- INY (42 R222). -/
def inyOp (s : State) : State := s.loadY (s.Y + 1)

/-- INY, IMP, opcode 0xC8, base 2 (30 R94). -/
def execIny (s : State) : Host.Outcome State Fault Refusal :=
  execOne 2 inyOp s

/-- DEX (42 R223). -/
def dexOp (s : State) : State := s.loadX (s.X - 1)

/-- DEX, IMP, opcode 0xCA, base 2 (30 R94). -/
def execDex (s : State) : Host.Outcome State Fault Refusal :=
  execOne 2 dexOp s

/-- DEY (42 R224). -/
def deyOp (s : State) : State := s.loadY (s.Y - 1)

/-- DEY, IMP, opcode 0x88, base 2 (30 R94). -/
def execDey (s : State) : Host.Outcome State Fault Refusal :=
  execOne 2 deyOp s

end Sys2Proof.Machine
end

