-- ==== Sys2Proof/Machine/Control.lean ====
section
/-! DEFINITION. Control transfer (44 R270 to R283): for each mnemonic its executor, then one meaning per row. -/

namespace Sys2Proof.Machine

/-- The page of an address: its bits 8 to 15 (20 R67). -/
def samePage (a b : Address) : Bool := highByte a == highByte b

/-- The semantics the eight branches share (44 R270): if taken, add the displacement to the advanced PC, modulo 65536, and pay
1 cycle, or 2 when the new PC is in another page than the advanced PC. A branch not taken changes nothing. -/
def branchIf (taken : Bool) (d : Int) (s : State) : Effect :=
  let new := s.PC + BitVec.ofInt 16 d
  if taken then ⟨s.setPC new, if samePage s.PC new then 1 else 2⟩ else s.noPenalty

/-- BCC: branch if carry clear (44 R271). -/
def bccOp (d : Int) (s : State) : Effect := branchIf (!s.flag .C) d s

/-- BCC, REL, opcode 0x90, base 2 (30 R94). -/
def execBcc (d : Int) (s : State) : Host.Outcome State Fault Refusal :=
  runInstr 2 2 (bccOp d) s

/-- BCS: branch if carry set (44 R272). -/
def bcsOp (d : Int) (s : State) : Effect := branchIf (s.flag .C) d s

/-- BCS, REL, opcode 0xB0, base 2 (30 R94). -/
def execBcs (d : Int) (s : State) : Host.Outcome State Fault Refusal :=
  runInstr 2 2 (bcsOp d) s

/-- BEQ: branch if equal (44 R273). -/
def beqOp (d : Int) (s : State) : Effect := branchIf (s.flag .Z) d s

/-- BEQ, REL, opcode 0xF0, base 2 (30 R94). -/
def execBeq (d : Int) (s : State) : Host.Outcome State Fault Refusal :=
  runInstr 2 2 (beqOp d) s

/-- BMI: branch if minus (44 R274). -/
def bmiOp (d : Int) (s : State) : Effect := branchIf (s.flag .N) d s

/-- BMI, REL, opcode 0x30, base 2 (30 R94). -/
def execBmi (d : Int) (s : State) : Host.Outcome State Fault Refusal :=
  runInstr 2 2 (bmiOp d) s

/-- BNE: branch if not equal (44 R275). -/
def bneOp (d : Int) (s : State) : Effect := branchIf (!s.flag .Z) d s

/-- BNE, REL, opcode 0xD0, base 2 (30 R94). -/
def execBne (d : Int) (s : State) : Host.Outcome State Fault Refusal :=
  runInstr 2 2 (bneOp d) s

/-- BPL: branch if plus (44 R276). -/
def bplOp (d : Int) (s : State) : Effect := branchIf (!s.flag .N) d s

/-- BPL, REL, opcode 0x10, base 2 (30 R94). -/
def execBpl (d : Int) (s : State) : Host.Outcome State Fault Refusal :=
  runInstr 2 2 (bplOp d) s

/-- BVC: branch if overflow clear (44 R277). -/
def bvcOp (d : Int) (s : State) : Effect := branchIf (!s.flag .V) d s

/-- BVC, REL, opcode 0x50, base 2 (30 R94). -/
def execBvc (d : Int) (s : State) : Host.Outcome State Fault Refusal :=
  runInstr 2 2 (bvcOp d) s

/-- BVS: branch if overflow set (44 R278). -/
def bvsOp (d : Int) (s : State) : Effect := branchIf (s.flag .V) d s

/-- BVS, REL, opcode 0x70, base 2 (30 R94). -/
def execBvs (d : Int) (s : State) : Host.Outcome State Fault Refusal :=
  runInstr 2 2 (bvsOp d) s

/-- JMP (44 R279). -/
def jmpOp (op : MemOperand) (s : State) : Effect := (s.setPC op.address).noPenalty

/-- JMP, ABS, opcode 0x4C, base 3 (30 R94). -/
def execJmpAbs (w : Address) (s : State) : Host.Outcome State Fault Refusal :=
  execMem 3 jmpOp (.abs w) s

/-- JMP, IND, opcode 0x6C, base 5 (30 R94). -/
def execJmpInd (w : Address) (s : State) : Host.Outcome State Fault Refusal :=
  execMem 5 jmpOp (.ind w) s

/-- JSR (44 R280): push `PC - 1`, the address of JSR's last byte, high byte first. -/
def jsrOp (op : MemOperand) (s : State) : Effect := ((s.pushWord (s.PC - 1)).setPC op.address).noPenalty

/-- JSR, ABS, opcode 0x20, base 6 (30 R94). -/
def execJsr (w : Address) (s : State) : Host.Outcome State Fault Refusal :=
  execMem 6 jsrOp (.abs w) s

/-- RTS (44 R281): pull low then high, and add 1. -/
def rtsOp (s : State) : State :=
  let lo := s.top
  let s1 := s.pop
  let hi := s1.top
  s1.pop.setPC (wordOf hi lo + 1)

/-- RTS, IMP, opcode 0x60, base 6 (30 R94). -/
def execRts (s : State) : Host.Outcome State Fault Refusal :=
  execOne 6 rtsOp s

end Sys2Proof.Machine
end

