-- ==== Sys2Proof/Machine/LoadStore.lean ====
section
/-! DEFINITION. Loads, stores and register transfers (41 R160 to R171): for each mnemonic its executor, then one meaning per row. -/

namespace Sys2Proof.Machine

/-- LDA (41 R160). -/
def ldaOp (op : MemOperand) (s : State) : Effect := ⟨s.loadA (s.read op.address), op.penalty⟩

/-- LDA, XIND, opcode 0xA1, base 6 (30 R94). -/
def execLdaXInd (b : Byte) (s : State) : Host.Outcome State Fault Refusal :=
  execMem 6 ldaOp (.xInd b) s

/-- LDA, ZP, opcode 0xA5, base 3 (30 R94). -/
def execLdaZp (b : Byte) (s : State) : Host.Outcome State Fault Refusal :=
  execMem 3 ldaOp (.zp b) s

/-- LDA, IMM, opcode 0xA9, base 2 (30 R94). -/
def execLdaImm (b : Byte) (s : State) : Host.Outcome State Fault Refusal :=
  execMem 2 ldaOp (.imm b) s

/-- LDA, ABS, opcode 0xAD, base 4 (30 R94). -/
def execLdaAbs (w : Address) (s : State) : Host.Outcome State Fault Refusal :=
  execMem 4 ldaOp (.abs w) s

/-- LDA, INDY, opcode 0xB1, base 5 (30 R94). -/
def execLdaIndY (b : Byte) (s : State) : Host.Outcome State Fault Refusal :=
  execMem 5 ldaOp (.indY b) s

/-- LDA, ZPX, opcode 0xB5, base 4 (30 R94). -/
def execLdaZpX (b : Byte) (s : State) : Host.Outcome State Fault Refusal :=
  execMem 4 ldaOp (.zpX b) s

/-- LDA, ABSY, opcode 0xB9, base 4 (30 R94). -/
def execLdaAbsY (w : Address) (s : State) : Host.Outcome State Fault Refusal :=
  execMem 4 ldaOp (.absY w) s

/-- LDA, ABSX, opcode 0xBD, base 4 (30 R94). -/
def execLdaAbsX (w : Address) (s : State) : Host.Outcome State Fault Refusal :=
  execMem 4 ldaOp (.absX w) s

/-- LDX (41 R161). -/
def ldxOp (op : MemOperand) (s : State) : Effect := ⟨s.loadX (s.read op.address), op.penalty⟩

/-- LDX, IMM, opcode 0xA2, base 2 (30 R94). -/
def execLdxImm (b : Byte) (s : State) : Host.Outcome State Fault Refusal :=
  execMem 2 ldxOp (.imm b) s

/-- LDX, ZP, opcode 0xA6, base 3 (30 R94). -/
def execLdxZp (b : Byte) (s : State) : Host.Outcome State Fault Refusal :=
  execMem 3 ldxOp (.zp b) s

/-- LDX, ABS, opcode 0xAE, base 4 (30 R94). -/
def execLdxAbs (w : Address) (s : State) : Host.Outcome State Fault Refusal :=
  execMem 4 ldxOp (.abs w) s

/-- LDX, ZPY, opcode 0xB6, base 4 (30 R94). -/
def execLdxZpY (b : Byte) (s : State) : Host.Outcome State Fault Refusal :=
  execMem 4 ldxOp (.zpY b) s

/-- LDX, ABSY, opcode 0xBE, base 4 (30 R94). -/
def execLdxAbsY (w : Address) (s : State) : Host.Outcome State Fault Refusal :=
  execMem 4 ldxOp (.absY w) s

/-- LDY (41 R162). -/
def ldyOp (op : MemOperand) (s : State) : Effect := ⟨s.loadY (s.read op.address), op.penalty⟩

/-- LDY, IMM, opcode 0xA0, base 2 (30 R94). -/
def execLdyImm (b : Byte) (s : State) : Host.Outcome State Fault Refusal :=
  execMem 2 ldyOp (.imm b) s

/-- LDY, ZP, opcode 0xA4, base 3 (30 R94). -/
def execLdyZp (b : Byte) (s : State) : Host.Outcome State Fault Refusal :=
  execMem 3 ldyOp (.zp b) s

/-- LDY, ABS, opcode 0xAC, base 4 (30 R94). -/
def execLdyAbs (w : Address) (s : State) : Host.Outcome State Fault Refusal :=
  execMem 4 ldyOp (.abs w) s

/-- LDY, ZPX, opcode 0xB4, base 4 (30 R94). -/
def execLdyZpX (b : Byte) (s : State) : Host.Outcome State Fault Refusal :=
  execMem 4 ldyOp (.zpX b) s

/-- LDY, ABSX, opcode 0xBC, base 4 (30 R94). -/
def execLdyAbsX (w : Address) (s : State) : Host.Outcome State Fault Refusal :=
  execMem 4 ldyOp (.absX w) s

/-- STA (41 R163): the crossing flag is ignored. It does not read memory. -/
def staOp (op : MemOperand) (s : State) : Effect := (s.write op.address s.A).noPenalty

/-- STA, XIND, opcode 0x81, base 6 (30 R94). -/
def execStaXInd (b : Byte) (s : State) : Host.Outcome State Fault Refusal :=
  execMem 6 staOp (.xInd b) s

/-- STA, ZP, opcode 0x85, base 3 (30 R94). -/
def execStaZp (b : Byte) (s : State) : Host.Outcome State Fault Refusal :=
  execMem 3 staOp (.zp b) s

/-- STA, ABS, opcode 0x8D, base 4 (30 R94). -/
def execStaAbs (w : Address) (s : State) : Host.Outcome State Fault Refusal :=
  execMem 4 staOp (.abs w) s

/-- STA, INDY, opcode 0x91, base 6 (30 R94). -/
def execStaIndY (b : Byte) (s : State) : Host.Outcome State Fault Refusal :=
  execMem 6 staOp (.indY b) s

/-- STA, ZPX, opcode 0x95, base 4 (30 R94). -/
def execStaZpX (b : Byte) (s : State) : Host.Outcome State Fault Refusal :=
  execMem 4 staOp (.zpX b) s

/-- STA, ABSY, opcode 0x99, base 5 (30 R94). -/
def execStaAbsY (w : Address) (s : State) : Host.Outcome State Fault Refusal :=
  execMem 5 staOp (.absY w) s

/-- STA, ABSX, opcode 0x9D, base 5 (30 R94). -/
def execStaAbsX (w : Address) (s : State) : Host.Outcome State Fault Refusal :=
  execMem 5 staOp (.absX w) s

/-- STX (41 R164). -/
def stxOp (op : MemOperand) (s : State) : Effect := (s.write op.address s.X).noPenalty

/-- STX, ZP, opcode 0x86, base 3 (30 R94). -/
def execStxZp (b : Byte) (s : State) : Host.Outcome State Fault Refusal :=
  execMem 3 stxOp (.zp b) s

/-- STX, ABS, opcode 0x8E, base 4 (30 R94). -/
def execStxAbs (w : Address) (s : State) : Host.Outcome State Fault Refusal :=
  execMem 4 stxOp (.abs w) s

/-- STX, ZPY, opcode 0x96, base 4 (30 R94). -/
def execStxZpY (b : Byte) (s : State) : Host.Outcome State Fault Refusal :=
  execMem 4 stxOp (.zpY b) s

/-- STY (41 R165). -/
def styOp (op : MemOperand) (s : State) : Effect := (s.write op.address s.Y).noPenalty

/-- STY, ZP, opcode 0x84, base 3 (30 R94). -/
def execStyZp (b : Byte) (s : State) : Host.Outcome State Fault Refusal :=
  execMem 3 styOp (.zp b) s

/-- STY, ABS, opcode 0x8C, base 4 (30 R94). -/
def execStyAbs (w : Address) (s : State) : Host.Outcome State Fault Refusal :=
  execMem 4 styOp (.abs w) s

/-- STY, ZPX, opcode 0x94, base 4 (30 R94). -/
def execStyZpX (b : Byte) (s : State) : Host.Outcome State Fault Refusal :=
  execMem 4 styOp (.zpX b) s

/-- TAX (41 R166). -/
def taxOp (s : State) : State := s.loadX s.A

/-- TAX, IMP, opcode 0xAA, base 2 (30 R94). -/
def execTax (s : State) : Host.Outcome State Fault Refusal :=
  execOne 2 taxOp s

/-- TAY (41 R167). -/
def tayOp (s : State) : State := s.loadY s.A

/-- TAY, IMP, opcode 0xA8, base 2 (30 R94). -/
def execTay (s : State) : Host.Outcome State Fault Refusal :=
  execOne 2 tayOp s

/-- TXA (41 R168). -/
def txaOp (s : State) : State := s.loadA s.X

/-- TXA, IMP, opcode 0x8A, base 2 (30 R94). -/
def execTxa (s : State) : Host.Outcome State Fault Refusal :=
  execOne 2 txaOp s

/-- TYA (41 R169). -/
def tyaOp (s : State) : State := s.loadA s.Y

/-- TYA, IMP, opcode 0x98, base 2 (30 R94). -/
def execTya (s : State) : Host.Outcome State Fault Refusal :=
  execOne 2 tyaOp s

/-- TSX (41 R170). -/
def tsxOp (s : State) : State := s.loadX s.SP

/-- TSX, IMP, opcode 0xBA, base 2 (30 R94). -/
def execTsx (s : State) : Host.Outcome State Fault Refusal :=
  execOne 2 tsxOp s

/-- TXS (41 R171): the one transfer that writes no flag. -/
def txsOp (s : State) : State := s.setSP s.X

/-- TXS, IMP, opcode 0x9A, base 2 (30 R94). -/
def execTxs (s : State) : Host.Outcome State Fault Refusal :=
  execOne 2 txsOp s

end Sys2Proof.Machine
end

