-- ==== Sys2Proof/Machine/Shift.lean ====
section
/-! DEFINITION. Shifts and rotates (43 R250 to R254): the shared operation, for each mnemonic its executor on memory, then one meaning
per row. -/

namespace Sys2Proof.Machine

/-- Where a shift reads its old value and writes its result: the accumulator marker or an address (43 R250). -/
inductive ShiftPlace where
  | acc
  | mem (a : Address)
  deriving DecidableEq, Repr

/-- The old value at a place (43 R250). -/
def State.placeRead (s : State) : ShiftPlace → Byte
  | .acc => s.A
  | .mem a => s.read a

/-- Write the result at a place (43 R250). -/
def State.placeWrite (s : State) (r : Byte) : ShiftPlace → State
  | .acc => s.setA r
  | .mem a => s.write a r

/-- The semantics ASL, LSR, ROL and ROR share (43 R250): the result goes back to its place, P.C receives the bit shifted out,
`SetZN(r)` follows. -/
def shiftAt (core : ShiftCore) (place : ShiftPlace) (s : State) : State :=
  let r := core (s.placeRead place) (s.flag .C)
  ((s.placeWrite r.result place).setFlag .C r.out).setZN r.result

/-- ASL on a memory operand (43 R251): the crossing flag is ignored. -/
def aslOp (op : MemOperand) (s : State) : Effect :=
  (shiftAt aslCore (.mem op.address) s).noPenalty

/-- ASL, ZP, opcode 0x06, base 5 (30 R94). -/
def execAslZp (b : Byte) (s : State) : Host.Outcome State Fault Refusal :=
  execMem 5 aslOp (.zp b) s

/-- ASL, ACC, opcode 0x0A, base 2 (30 R94). -/
def execAslAcc (s : State) : Host.Outcome State Fault Refusal :=
  execOne 2 (shiftAt aslCore .acc) s

/-- ASL, ABS, opcode 0x0E, base 6 (30 R94). -/
def execAslAbs (w : Address) (s : State) : Host.Outcome State Fault Refusal :=
  execMem 6 aslOp (.abs w) s

/-- ASL, ZPX, opcode 0x16, base 6 (30 R94). -/
def execAslZpX (b : Byte) (s : State) : Host.Outcome State Fault Refusal :=
  execMem 6 aslOp (.zpX b) s

/-- ASL, ABSX, opcode 0x1E, base 7 (30 R94). -/
def execAslAbsX (w : Address) (s : State) : Host.Outcome State Fault Refusal :=
  execMem 7 aslOp (.absX w) s

/-- LSR on a memory operand (43 R252): the crossing flag is ignored. -/
def lsrOp (op : MemOperand) (s : State) : Effect :=
  (shiftAt lsrCore (.mem op.address) s).noPenalty

/-- LSR, ZP, opcode 0x46, base 5 (30 R94). -/
def execLsrZp (b : Byte) (s : State) : Host.Outcome State Fault Refusal :=
  execMem 5 lsrOp (.zp b) s

/-- LSR, ACC, opcode 0x4A, base 2 (30 R94). -/
def execLsrAcc (s : State) : Host.Outcome State Fault Refusal :=
  execOne 2 (shiftAt lsrCore .acc) s

/-- LSR, ABS, opcode 0x4E, base 6 (30 R94). -/
def execLsrAbs (w : Address) (s : State) : Host.Outcome State Fault Refusal :=
  execMem 6 lsrOp (.abs w) s

/-- LSR, ZPX, opcode 0x56, base 6 (30 R94). -/
def execLsrZpX (b : Byte) (s : State) : Host.Outcome State Fault Refusal :=
  execMem 6 lsrOp (.zpX b) s

/-- LSR, ABSX, opcode 0x5E, base 7 (30 R94). -/
def execLsrAbsX (w : Address) (s : State) : Host.Outcome State Fault Refusal :=
  execMem 7 lsrOp (.absX w) s

/-- ROL on a memory operand (43 R253): the crossing flag is ignored. -/
def rolOp (op : MemOperand) (s : State) : Effect :=
  (shiftAt rolCore (.mem op.address) s).noPenalty

/-- ROL, ZP, opcode 0x26, base 5 (30 R94). -/
def execRolZp (b : Byte) (s : State) : Host.Outcome State Fault Refusal :=
  execMem 5 rolOp (.zp b) s

/-- ROL, ACC, opcode 0x2A, base 2 (30 R94). -/
def execRolAcc (s : State) : Host.Outcome State Fault Refusal :=
  execOne 2 (shiftAt rolCore .acc) s

/-- ROL, ABS, opcode 0x2E, base 6 (30 R94). -/
def execRolAbs (w : Address) (s : State) : Host.Outcome State Fault Refusal :=
  execMem 6 rolOp (.abs w) s

/-- ROL, ZPX, opcode 0x36, base 6 (30 R94). -/
def execRolZpX (b : Byte) (s : State) : Host.Outcome State Fault Refusal :=
  execMem 6 rolOp (.zpX b) s

/-- ROL, ABSX, opcode 0x3E, base 7 (30 R94). -/
def execRolAbsX (w : Address) (s : State) : Host.Outcome State Fault Refusal :=
  execMem 7 rolOp (.absX w) s

/-- ROR on a memory operand (43 R254): the crossing flag is ignored. -/
def rorOp (op : MemOperand) (s : State) : Effect :=
  (shiftAt rorCore (.mem op.address) s).noPenalty

/-- ROR, ZP, opcode 0x66, base 5 (30 R94). -/
def execRorZp (b : Byte) (s : State) : Host.Outcome State Fault Refusal :=
  execMem 5 rorOp (.zp b) s

/-- ROR, ACC, opcode 0x6A, base 2 (30 R94). -/
def execRorAcc (s : State) : Host.Outcome State Fault Refusal :=
  execOne 2 (shiftAt rorCore .acc) s

/-- ROR, ABS, opcode 0x6E, base 6 (30 R94). -/
def execRorAbs (w : Address) (s : State) : Host.Outcome State Fault Refusal :=
  execMem 6 rorOp (.abs w) s

/-- ROR, ZPX, opcode 0x76, base 6 (30 R94). -/
def execRorZpX (b : Byte) (s : State) : Host.Outcome State Fault Refusal :=
  execMem 6 rorOp (.zpX b) s

/-- ROR, ABSX, opcode 0x7E, base 7 (30 R94). -/
def execRorAbsX (w : Address) (s : State) : Host.Outcome State Fault Refusal :=
  execMem 7 rorOp (.absX w) s

end Sys2Proof.Machine
end

