-- ==== Sys2Proof/Machine/StackFlag.lean ====
section
/-! DEFINITION. Stack, flag and system instructions (45 R300 to R313): for each mnemonic its executor, then its meaning. -/

namespace Sys2Proof.Machine

/-- PHA (45 R300). -/
def phaOp (s : State) : State := s.push s.A

/-- PHA, IMP, opcode 0x48, base 3 (30 R94). -/
def execPha (s : State) : Host.Outcome State Fault Refusal :=
  execOne 3 phaOp s

/-- PHP (45 R301): the register P is not written. -/
def phpOp (s : State) : State := s.push (pushedStatus s.P)

/-- PHP, IMP, opcode 0x08, base 3 (30 R94). -/
def execPhp (s : State) : Host.Outcome State Fault Refusal :=
  execOne 3 phpOp s

/-- PLA (45 R302). -/
def plaOp (s : State) : State := s.pop.loadA s.top

/-- PLA, IMP, opcode 0x68, base 4 (30 R94). -/
def execPla (s : State) : Host.Outcome State Fault Refusal :=
  execOne 4 plaOp s

/-- PLP (45 R303). -/
def plpOp (s : State) : State := s.pop.setP (pulledStatus s.top)

/-- PLP, IMP, opcode 0x28, base 4 (30 R94). -/
def execPlp (s : State) : Host.Outcome State Fault Refusal :=
  execOne 4 plpOp s

/-- CLC (45 R304). -/
def clcOp (s : State) : State := s.setFlag .C false

/-- CLC, IMP, opcode 0x18, base 2 (30 R94). -/
def execClc (s : State) : Host.Outcome State Fault Refusal :=
  execOne 2 clcOp s

/-- SEC (45 R305). -/
def secOp (s : State) : State := s.setFlag .C true

/-- SEC, IMP, opcode 0x38, base 2 (30 R94). -/
def execSec (s : State) : Host.Outcome State Fault Refusal :=
  execOne 2 secOp s

/-- CLI (45 R306). -/
def cliOp (s : State) : State := s.setFlag .I false

/-- CLI, IMP, opcode 0x58, base 2 (30 R94). -/
def execCli (s : State) : Host.Outcome State Fault Refusal :=
  execOne 2 cliOp s

/-- SEI (45 R307). -/
def seiOp (s : State) : State := s.setFlag .I true

/-- SEI, IMP, opcode 0x78, base 2 (30 R94). -/
def execSei (s : State) : Host.Outcome State Fault Refusal :=
  execOne 2 seiOp s

/-- CLD (45 R308). -/
def cldOp (s : State) : State := s.setFlag .D false

/-- CLD, IMP, opcode 0xD8, base 2 (30 R94). -/
def execCld (s : State) : Host.Outcome State Fault Refusal :=
  execOne 2 cldOp s

/-- SED (45 R309). -/
def sedOp (s : State) : State := s.setFlag .D true

/-- SED, IMP, opcode 0xF8, base 2 (30 R94). -/
def execSed (s : State) : Host.Outcome State Fault Refusal :=
  execOne 2 sedOp s

/-- CLV (45 R310). -/
def clvOp (s : State) : State := s.setFlag .V false

/-- CLV, IMP, opcode 0xB8, base 2 (30 R94). -/
def execClv (s : State) : Host.Outcome State Fault Refusal :=
  execOne 2 clvOp s

/-- BRK (45 R311): takes the trap, whatever P.I holds (10 R30). -/
def brkOp (s : State) : State := s.takeBreak

/-- BRK, IMP, opcode 0x00, base 7 (30 R94). -/
def execBrk (s : State) : Host.Outcome State Fault Refusal :=
  execOne 7 brkOp s

/-- RTI (45 R312). -/
def rtiOp (s : State) : State := s.returnFromBreak

/-- RTI, IMP, opcode 0x40, base 6 (30 R94). -/
def execRti (s : State) : Host.Outcome State Fault Refusal :=
  execOne 6 rtiOp s

/-- NOP (45 R313): "no state change beyond normal instruction advance". -/
def nopOp (s : State) : State := s

/-- NOP, IMP, opcode 0xEA, base 2 (30 R94). -/
def execNop (s : State) : Host.Outcome State Fault Refusal :=
  execOne 2 nopOp s

end Sys2Proof.Machine
end

