-- ==== Sys2Proof/Machine/Fetch.lean ====
section
/-! DEFINITION. Fetching an instruction's bytes and decoding them (46 R343, R344, R346), and placing bytes in memory. -/

namespace Sys2Proof.Machine

/-- The bytes at PC, PC + 1 and PC + 2, each offset modulo 65536 (46 R346). The decoder takes as many as the instruction has;
reading the others has no effect (20 R62). -/
def fetchBytes (s : State) : List Byte := [s.read s.PC, s.read (s.PC + 1), s.read (s.PC + 2)]

/-- The instruction at PC, or nothing when the opcode byte has no table entry (30 R96). -/
def fetch (s : State) : Option Instr :=
  match decode (fetchBytes s) with
  | .ok (i, _) => some i
  | .error _ => none

/-- Write bytes at rising addresses from an offset, modulo 65536 (46 R356). -/
def State.writeBytes (s : State) : List Byte → Address → State
  | [], _ => s
  | v :: vs, a => (s.write a v).writeBytes vs (a + 1)

/-- The state in which the next step dispatches: nothing in flight and nothing latched (10 R36). -/
def State.idle (s : State) : State := (s.setRemaining 0).setHalted none

end Sys2Proof.Machine
end

