-- ==== Sys2Proof/Machine/Step.lean ====
section
/-! DEFINITION. One Step of the sequencer (46 R340 to R343), and the placing of one instruction where it fetches. -/

namespace Sys2Proof.Machine

/-- The dispatch step (46 R343): run the instruction at PC and tick, or raise the decode error (60 R381). -/
def dispatchStep (s : State) : Host.Outcome State Fault Refusal :=
  match fetch s with
  | none => .next (s.raiseDecodeError (s.read s.PC) s.PC)
  | some i =>
    match exec i s with
    | .next t => .next t.tick
    | .fault r => .fault r
    | .refused r => .refused r

/-- One Step, one cycle (46 R340): a halted step changes no state (R341), a counting step ticks (R342), and a step that finds
`remaining == 0` dispatches (R343). -/
def step (s : State) : Host.Outcome State Fault Refusal :=
  match s.halted with
  | some _ => .next s
  | none => if s.remaining = 0 then dispatchStep s else .next s.tick

/-- The state with the instruction of a table word stored at PC and ready to dispatch (log entry 14). -/
def State.withFetchWord (s : State) (nbits w : Nat) : State := (s.writeBytes (wordBytes nbits w) s.PC).idle

end Sys2Proof.Machine
end

