-- ==== Sys2Proof/Machine/HostOps.lean ====
section
/-! DEFINITION. The host interface: what a Step returns, Inspect, Load, Reset, ResumePast, power-on, and a sequence of host
operations (46 R354 to R361, 70 R410 to R418). -/

namespace Sys2Proof.Machine

/-- What a Step returns (46 R354). -/
inductive StepResult where
  | ticked
  | dispatched (mnemonic : Mnemonic) (mode : Mode) (opcode : Byte) (addr : Address)
  | decodeError (byte : Byte) (addr : Address)
  deriving DecidableEq, Repr

/-- The result of the Step taken from a state (46 R341 to R343, R354). It is an output, not state (10 R37, log entry 8). -/
def stepResult (s : State) : StepResult :=
  match s.halted with
  | some e => .decodeError e.byte e.addr
  | none =>
    if s.remaining = 0 then
      match fetch s with
      | some i => .dispatched i.mnemonic i.mode (s.read s.PC) s.PC
      | none => .decodeError (s.read s.PC) s.PC
    else .ticked

/-- What Inspect returns, less the memory bytes: P comes "as 8 individual flag bits" (46 R355). -/
structure Inspection where
  A : Byte
  X : Byte
  Y : Byte
  PC : Address
  SP : Byte
  N : Bool
  V : Bool
  U : Bool
  B : Bool
  D : Bool
  I : Bool
  Z : Bool
  C : Bool
  remaining : Nat
  total : Nat
  halted : Option DecodeError
  deriving DecidableEq, Repr

/-- Inspect (46 R355): read-only. -/
def inspect (s : State) : Inspection where
  A := s.A
  X := s.X
  Y := s.Y
  PC := s.PC
  SP := s.SP
  N := s.flag .N
  V := s.flag .V
  U := s.flag .U
  B := s.flag .B
  D := s.flag .D
  I := s.flag .I
  Z := s.flag .Z
  C := s.flag .C
  remaining := s.remaining
  total := s.total
  halted := s.halted

/-- Inspect of one memory byte (46 R355). -/
def inspectByte (s : State) (a : Address) : Byte := s.read a

/-- Load (46 R356): byte `i` goes to `(offset + i) & 0xFFFF`, in increasing `i`; no register, counter or latch changes. -/
def hostLoad (bytes : List Byte) (offset : Address) (s : State) : State := s.writeBytes bytes offset

/-- Reset (70 R410 to R415): PC from the Reset vector as memory stands, SP 0xFF, P cleared or left as the caller chooses,
`remaining` 0, nothing latched; A, X, Y, `total` and memory unchanged. -/
def hostReset (clearStatus : Bool) (s : State) : State :=
  { s with
    PC := s.readWord resetVector
    SP := 0xFF#8
    P := if clearStatus then 0x00#8 else s.P
    remaining := 0
    halted := none }

/-- ResumePast (46 R358): PC goes past the one offending byte and the latch clears; nothing happens when nothing is latched. -/
def resumePast (s : State) : State :=
  match s.halted with
  | some e => (s.setPC (e.addr + 1)).setHalted none
  | none => s

/-- The registers that power-on leaves unspecified (70 R416): any value. -/
structure PowerOnRegisters where
  A : Byte
  X : Byte
  Y : Byte
  SP : Byte
  PC : Address
  P : Byte
  deriving DecidableEq, Repr

/-- Power-on (70 R416): all memory 0x00, both counters 0, nothing latched; the registers hold whatever they hold. -/
def powerOn (r : PowerOnRegisters) : State where
  A := r.A
  X := r.X
  Y := r.Y
  SP := r.SP
  PC := r.PC
  P := r.P
  mem := []
  remaining := 0
  total := 0
  halted := none

/-- The host's operations (46 R340, R354 to R358): the only moves the block makes (46 R360). -/
inductive HostOp where
  | step
  | inspect
  | load (bytes : List Byte) (offset : Address)
  | reset (clearStatus : Bool)
  | resumePast
  deriving DecidableEq, Repr

/-- One host operation, atomic with respect to every other (46 R359). -/
def hostOp (op : HostOp) (s : State) : Host.Outcome State Fault Refusal :=
  match op with
  | .step => Sys2Proof.Machine.step s
  | .inspect => .next s
  | .load bytes offset => .next (hostLoad bytes offset s)
  | .reset clearStatus => .next (hostReset clearStatus s)
  | .resumePast => .next (Sys2Proof.Machine.resumePast s)

/-- A sequence of host operations, one at a time, in any order (46 R359, R361). -/
def hostRun : List HostOp → State → Host.Outcome State Fault Refusal
  | [], s => .next s
  | op :: ops, s =>
    match hostOp op s with
    | .next t => hostRun ops t
    | .fault r => .fault r
    | .refused r => .refused r

end Sys2Proof.Machine
end

