-- ==== Sys2Proof/Safety.lean ====
section
/-! DEFINITION. The terms claims are stated in: what a state must satisfy at every step boundary, what two states have in
common, where an instruction stores, and what counts as a safe run. -/

namespace Sys2Proof.Machine

/-- What holds of a latched decode error (60 R380, R381): its byte has no table entry, PC stays at its address, and nothing
is in flight. -/
abbrev State.latchWf (s : State) : Prop :=
  ∀ e ∈ s.halted, lookupOpcode e.byte = none ∧ s.PC = e.addr ∧ s.remaining = 0

/-- The invariant of every step boundary: memory is in canonical form, `remaining` lies in 0 to 6 (10 R33), and the latch is
as the decode error left it. -/
structure State.Inv (s : State) : Prop where
  memory : s.mem.wf
  countdown : s.remaining ≤ 6
  latch : s.latchWf

/-- The 8-bit registers other than P (10 R20). -/
inductive Reg where
  | A | X | Y | SP
  deriving DecidableEq, Repr

/-- The value of a register. -/
def State.reg (s : State) : Reg → Byte
  | .A => s.A
  | .X => s.X
  | .Y => s.Y
  | .SP => s.SP

/-- Every register outside some registers is the same. -/
abbrev SameRegsExcept (written : List Reg) (s t : State) : Prop := ∀ r : Reg, r ∉ written → t.reg r = s.reg r

/-- Every byte of memory reads the same in two states. -/
abbrev SameMemory (s t : State) : Prop := ∀ a : Address, t.read a = s.read a

/-- Every byte of memory outside some addresses reads the same. -/
abbrev SameMemoryExcept (stored : List Address) (s t : State) : Prop := ∀ a : Address, a ∉ stored → t.read a = s.read a

/-- Every flag outside some flags is the same. -/
abbrev SameFlagsExcept (written : List Flag) (s t : State) : Prop := ∀ f : Flag, f ∉ written → t.flag f = s.flag f

/-- The counters and the latch an instruction never writes: `total` (10 R34) and `halted` (10 R35). -/
abbrev SameBookkeeping (s t : State) : Prop := t.total = s.total ∧ t.halted = s.halted

/-- PC is the address after the instruction (46 R345: "an instruction that does not write PC leaves it at this value"). -/
abbrev FallsThrough (i : Instr) (s t : State) : Prop := t.PC = s.PC + BitVec.ofNat 16 i.size

/-- The flags Z and N hold what `SetZN(v)` writes (10 R31). -/
abbrev ZNOf (v : Byte) (t : State) : Prop := t.flag .Z = decide (v = 0#8) ∧ t.flag .N = v.getLsbD 7

/-- The cost of an instruction after its dispatch, less the step's own tick: its table row's base cycles and a penalty
(46 R348). -/
abbrev Costs (i : Instr) (penalty : Nat) (t : State) : Prop := ∃ base, i.tableBase = some base ∧ t.remaining = base + penalty

/-- The state an instruction's resolver and executor see: PC past the instruction (46 R345). -/
abbrev advanced (i : Instr) (s : State) : State := s.advance i.size

/-- The addresses an instruction stores to, by 20 R79, computed with the resolver and the stack address its meaning uses, in
the state after the PC advance. -/
def storedAddrs (i : Instr) (s : State) : List Address :=
  match i.mnemonic, i.operand with
  | .STA, .mem f | .STX, .mem f | .STY, .mem f | .INC, .mem f | .DEC, .mem f
  | .ASL, .mem f | .LSR, .mem f | .ROL, .mem f | .ROR, .mem f => [(resolveMem f (advanced i s)).address]
  | .PHA, _ | .PHP, _ => [stackAddr s.SP]
  | .JSR, _ => [stackAddr s.SP, stackAddr (s.SP - 1)]
  | .BRK, _ => [stackAddr s.SP, stackAddr (s.SP - 1), stackAddr (s.SP - 1 - 1)]
  | _, _ => []

/-- A run of steps that ends with nothing latched: the program met no undefined opcode (60 R380). -/
def SafeRun (n : Nat) (s : State) : Prop := ∃ t, Sys2Proof.core.run n s = .next t ∧ t.halted = none

end Sys2Proof.Machine
end

