-- ==== Sys2Proof/Certificates/Slice0/Obligations.lean ====
section
/-! DEFINITION. The statements for the provers. Each docstring names the spec file and the rule or section it rests on; a rule
R<n> is cited by number only where the statement says the whole of it. -/

open Sys2Proof Sys2Proof.Machine

/-- O1 (tier 3). Decoding the encoding of any well-formed instruction gives that instruction back, and the bytes after it. No bit of an encoding is dropped (30 sections 1 and 2): every operand byte, both bytes of a word in their order, and every
displacement from -128 to 127 comes back. -/
def Obligations.DecodeOfEncodeIsTheInstruction : Prop :=
  ∀ (i : Instr) (rest : List Byte), i.wf → decode (encode i ++ rest) = .ok (i, rest)

/-- O2 (tier 3). Whatever the decoder accepts is well formed and its encoding is the bytes that were read. The other direction: no two byte sequences decode to one instruction, and the decoder makes no ill-formed instruction. -/
def Obligations.EncodeOfDecodedIsTheBytes : Prop :=
  ∀ (bytes rest : List Byte) (i : Instr), decode bytes = .ok (i, rest) → i.wf ∧ bytes = encode i ++ rest

/-- O3 (tier 2). A decoded operand is the operand byte, the little-endian word of the two, or the sign-extended displacement byte, as the mode says, never scaled. 30 R92, mode by mode; the operand is the one the resolver is given. -/
def Obligations.OperandBytesAreAssembled : Prop :=
  ∀ (op b1 b2 : Byte) (tail rest : List Byte) (i : Instr), decode (op :: b1 :: b2 :: tail) = .ok (i, rest) →
    (i.mode = .imm → i.operand = .mem (.imm b1)) ∧ (i.mode = .zp → i.operand = .mem (.zp b1)) ∧
    (i.mode = .zpX → i.operand = .mem (.zpX b1)) ∧ (i.mode = .zpY → i.operand = .mem (.zpY b1)) ∧
    (i.mode = .xInd → i.operand = .mem (.xInd b1)) ∧ (i.mode = .indY → i.operand = .mem (.indY b1)) ∧
    (i.mode = .abs → ∃ w, i.operand = .mem (.abs w) ∧ w.toNat = 256 * b2.toNat + b1.toNat) ∧
    (i.mode = .absX → ∃ w, i.operand = .mem (.absX w) ∧ w.toNat = 256 * b2.toNat + b1.toNat) ∧
    (i.mode = .absY → ∃ w, i.operand = .mem (.absY w) ∧ w.toNat = 256 * b2.toNat + b1.toNat) ∧
    (i.mode = .ind → ∃ w, i.operand = .mem (.ind w) ∧ w.toNat = 256 * b2.toNat + b1.toNat) ∧
    (i.mode = .rel → i.operand = .rel (if b1.toNat ≥ 0x80 then (b1.toNat : Int) - 256 else b1.toNat)) ∧
    (zeroPage b1).toNat = b1.toNat

/-- O4 (tier 1). The opcode table has an entry for exactly the 151 bytes outside the list of 105 undefined bytes, and decoding names the undefined byte. The list of the undefined bytes, written out from 30 section 3. That fetching one is a decode error is a statement of its own
(`UndefinedOpcodeLatchesAndHalts`). The byte values are general knowledge by the spec's own mark (log entry 10). -/
def Obligations.UndefinedOpcodesHaveNoTableEntry : Prop :=
  opcodeTable.length = 151 ∧
  ∀ (op : Byte) (rest : List Byte),
    (lookupOpcode op = none ↔ op.toNat ∈ [0x02, 0x03, 0x04, 0x07, 0x0B, 0x0C, 0x0F, 0x12, 0x13, 0x14, 0x17, 0x1A, 0x1B, 0x1C, 0x1F, 0x22, 0x23, 0x27,
      0x2B, 0x2F, 0x32, 0x33, 0x34, 0x37, 0x3A, 0x3B, 0x3C, 0x3F, 0x42, 0x43, 0x44, 0x47, 0x4B, 0x4F, 0x52, 0x53,
      0x54, 0x57, 0x5A, 0x5B, 0x5C, 0x5F, 0x62, 0x63, 0x64, 0x67, 0x6B, 0x6F, 0x72, 0x73, 0x74, 0x77, 0x7A, 0x7B,
      0x7C, 0x7F, 0x80, 0x82, 0x83, 0x87, 0x89, 0x8B, 0x8F, 0x92, 0x93, 0x97, 0x9B, 0x9C, 0x9E, 0x9F, 0xA3, 0xA7,
      0xAB, 0xAF, 0xB2, 0xB3, 0xB7, 0xBB, 0xBF, 0xC2, 0xC3, 0xC7, 0xCB, 0xCF, 0xD2, 0xD3, 0xD4, 0xD7, 0xDA, 0xDB,
      0xDC, 0xDF, 0xE2, 0xE3, 0xE7, 0xEB, 0xEF, 0xF2, 0xF3, 0xF4, 0xF7, 0xFA, 0xFB, 0xFC, 0xFF]) ∧
    (lookupOpcode op = none → decode (op :: rest) = .error (.undefinedOpcode op))

/-- O5 (tier 2). Instructions that start with the same byte have the same mnemonic, mode, length and base cycles; the length is the bytes consumed, 1, 2 or 3 by the mode. 30 R93, with the lengths as numbers from the table of 30 section 1. That BRK, Implied, is one byte is the spec's own decision D9 (log entry 9). -/
def Obligations.FirstByteDecidesRowAndLength : Prop :=
  (∀ (op : Byte) (r1 r2 t1 t2 : List Byte) (i j : Instr),
    decode (op :: r1) = .ok (i, t1) → decode (op :: r2) = .ok (j, t2) →
      i.mnemonic = j.mnemonic ∧ i.mode = j.mode ∧ i.size = j.size ∧ i.tableBase = j.tableBase ∧
      (op :: r1).length = i.size + t1.length) ∧
  ∀ i : Instr, (encode i).length = i.size ∧
    (i.mode ∈ [Mode.acc, .imp] → i.size = 1) ∧
    (i.mode ∈ [Mode.imm, .zp, .zpX, .zpY, .rel, .xInd, .indY] → i.size = 2) ∧
    (i.mode ∈ [Mode.abs, .absX, .absY, .ind] → i.size = 3)

/-- O6 (tier 1). A word of each family, written out from the spec, decodes to the instruction it stands for. The bytes are the examples of 30 section 4 and of 95 L2. -/
def Obligations.WordsOfEveryFamilyDecode : Prop :=
  decode [0x0A] = .ok (.aslAcc, []) ∧
  decode [0x18] = .ok (.clc, []) ∧
  decode [0xA9, 0x05] = .ok (.ldaImm 0x05, []) ∧
  decode [0xA5, 0x10] = .ok (.ldaZp 0x10, []) ∧
  decode [0xB5, 0x10] = .ok (.ldaZpX 0x10, []) ∧
  decode [0xB6, 0x10] = .ok (.ldxZpY 0x10, []) ∧
  decode [0x20, 0x34, 0x12] = .ok (.jsr 0x1234, []) ∧
  decode [0xBD, 0x34, 0x12] = .ok (.ldaAbsX 0x1234, []) ∧
  decode [0xB9, 0x34, 0x12] = .ok (.ldaAbsY 0x1234, []) ∧
  decode [0x6C, 0xFF, 0x02] = .ok (.jmpInd 0x02FF, []) ∧
  decode [0xA1, 0x10] = .ok (.ldaXInd 0x10, []) ∧
  decode [0xB1, 0x10] = .ok (.ldaIndY 0x10, []) ∧
  decode [0xD0, 0x05] = .ok (.bne 5, []) ∧
  decode [0xD0, 0xFD] = .ok (.bne (-3), []) ∧
  decode [0x69, 0x50] = .ok (.adcImm 0x50, []) ∧
  decode [0x8C, 0x00, 0x02] = .ok (.styAbs 0x0200, []) ∧
  decode [0xE6, 0x10] = .ok (.incZp 0x10, []) ∧
  decode [0x00] = .ok (.brk, [])

/-- O7 (tier 1). When nothing is in flight or latched and the bytes at PC decode to i, Step is exec of i followed by one tick, and reports i dispatched. The dispatch step of 46 section 1. `exec` advances PC and sets `remaining <- base + penalty`; Step adds the tick (log entry 7). -/
def Obligations.StepRunsTheDecodedInstruction : Prop :=
  ∀ (s : State) (i : Instr) (rest : List Byte),
    s.halted = none → s.remaining = 0 → decode [s.read s.PC, s.read (s.PC + 1), s.read (s.PC + 2)] = .ok (i, rest) →
      i.wf ∧ stepResult s = .dispatched i.mnemonic i.mode (s.read s.PC) s.PC ∧
      ∃ t, exec i s = .next t ∧ step s = .next { t with remaining := t.remaining - 1, total := t.total + 1 }

/-- O8 (tier 1). A counting step decrements remaining, increments total, changes nothing else and returns Ticked. 46 R342. -/
def Obligations.CountingStepOnlyTicks : Prop :=
  ∀ s : State, s.halted = none → 0 < s.remaining →
    step s = .next { s with remaining := s.remaining - 1, total := s.total + 1 } ∧ stepResult s = .ticked

/-- O9 (tier 1). Dispatching an undefined opcode only sets the latch, and every later Step changes nothing and reports the same decode error. 60 section 1 and 46 section 1, with the spec's own decisions D4 and D5: the error is precise, and a halted step is not counted.
That it is a next state of the model and no fault is log entry 6. -/
def Obligations.UndefinedOpcodeLatchesAndHalts : Prop :=
  (∀ s : State, s.halted = none → s.remaining = 0 → lookupOpcode (s.read s.PC) = none →
      step s = .next { s with halted := some ⟨s.read s.PC, s.PC⟩ } ∧ stepResult s = .decodeError (s.read s.PC) s.PC) ∧
  ∀ (s : State) (e : DecodeError), s.halted = some e →
      step s = .next s ∧ stepResult s = .decodeError e.byte e.addr

/-- O10 (tier 2). Every Step answers a next state and counts one cycle, except a halted step and the step that raises a decode error, which change neither counter. 46 section 2 with the exceptions of the spec's decisions D4 and D5. Step never faults and never refuses. -/
def Obligations.EveryStepIsCountedUnlessHalted : Prop :=
  ∀ s : State, ∃ t, step s = .next t ∧
    (t.halted = none →
      t.total = s.total + 1 ∧
      (0 < s.remaining → t.remaining + 1 = s.remaining) ∧
      (s.remaining = 0 → ∃ i u, fetch s = some i ∧ exec i s = .next u ∧ t.remaining + 1 = u.remaining)) ∧
    (t.halted ≠ none → t.total = s.total ∧ t.remaining = s.remaining)

/-- O11 (tier 3). Every Step keeps memory canonical, remaining in 0 to 6, and a latch whose byte is undefined, whose address is PC and with nothing in flight. "Between steps it lies in 0 to 6" (10 section 3) and the effect of a decode error (60 section 1), as an invariant of every Step from
every state, with the canonical form of the model's memory. -/
def Obligations.StepKeepsTheInvariant : Prop :=
  ∀ s t : State, s.Inv → step s = .next t → t.Inv

/-- O12 (tier 1). The invariant holds at State.reset and at power-on whatever the registers hold. The base case of the invariant. The register values of `State.reset` are log entries 1 to 3; the invariant rests on none of them. -/
def Obligations.InvariantHoldsAfterResetAndPowerOn : Prop :=
  State.reset.Inv ∧ ∀ r : PowerOnRegisters, (powerOn r).Inv

/-- O13 (tier 3). Any sequence of Step, Inspect, Load, Reset and ResumePast, from any state with the invariant, runs to the end and keeps it. 46 section 3: the host may call its operations at any step boundary, in any order. -/
def Obligations.HostOperationsKeepTheInvariant : Prop :=
  ∀ (ops : List HostOp) (s : State), s.Inv → ∃ t, hostRun ops s = .next t ∧ t.Inv

/-- O14 (tier 2). Only Reset and ResumePast clear a latched decode error; until then no Step changes anything. 10 section 3 and 60 section 4. -/
def Obligations.LatchLeftOnlyByResetOrResumePast : Prop :=
  (∀ (op : HostOp) (s t : State), s.halted ≠ none → hostOp op s = .next t → t.halted = none →
      (∃ c, op = .reset c) ∨ op = .resumePast) ∧
  ∀ (n : Nat) (s : State), s.halted ≠ none → Sys2Proof.core.run n s = .next s

/-- O15 (tier 2). An instruction that sets remaining to n takes n Steps: after them total is n higher and nothing else differs from the state exec gave. 46 section 2: the cost is `base + penalty` Steps, and the counting steps change only the two counters (70 section 3). -/
def Obligations.InstructionCostsItsCyclesInSteps : Prop :=
  ∀ (s : State) (i : Instr) (rest : List Byte),
    s.halted = none → s.remaining = 0 → decode [s.read s.PC, s.read (s.PC + 1), s.read (s.PC + 2)] = .ok (i, rest) →
      ∃ t, exec i s = .next t ∧ 2 ≤ t.remaining ∧
        Sys2Proof.core.run t.remaining s = .next { t with remaining := 0, total := s.total + t.remaining }

/-- O16 (tier 2). Only the nine read mnemonics pay for a page crossing, no other instruction but a branch pays a penalty, and the base cycles are the numbers of the cost summary. 46 section 2, and the cycle cost summary of 70 section 4, which the spec marks as derived; BIT, CPX and CPY are not in that
summary and, with NOP, have the base cycles of their rows in 30 section 2. All base values are general knowledge by the spec's own mark
(log entry 10). A row is some mnemonics, some modes and the base cycles. The penalty of a branch is `BranchesTestOneFlag`. -/
def Obligations.PagePenaltyOnlyForTheNineReads : Prop :=
  (∀ (i : Instr) (s : State), (∀ d, i.operand ≠ .rel d) →
    ∃ t base, exec i s = .next t ∧ i.tableBase = some base ∧
      ((∃ a, resolve i.operand (s.advance i.size) = .mem (.addrPC a true)) ∧
          i.mnemonic ∈ [Mnemonic.ADC, .AND, .CMP, .EOR, .LDA, .LDX, .LDY, .ORA, .SBC] → t.remaining = base + 1) ∧
      (¬((∃ a, resolve i.operand (s.advance i.size) = .mem (.addrPC a true)) ∧
          i.mnemonic ∈ [Mnemonic.ADC, .AND, .CMP, .EOR, .LDA, .LDX, .LDY, .ORA, .SBC]) → t.remaining = base)) ∧
  (∀ i : Instr, i.mode = .absX ∨ i.mode = .absY ∨ i.mode = .indY →
    i.mnemonic ∈ [Mnemonic.ADC, .AND, .CMP, .EOR, .LDA, .LDX, .LDY, .ORA, .SBC] ∨
    i.mnemonic ∈ [Mnemonic.ASL, .DEC, .INC, .LSR, .ROL, .ROR, .STA]) ∧
  let reads := [Mnemonic.ADC, .AND, .CMP, .EOR, .LDA, .LDX, .LDY, .ORA, .SBC]
  let stores := [Mnemonic.STA, .STX, .STY]
  let modifies := [Mnemonic.ASL, .DEC, .INC, .LSR, .ROL, .ROR]
  let rows : List (List Mnemonic × List Mode × Nat) :=
    [(reads, [.imm], 2), (reads, [.zp], 3), (reads, [.zpX, .zpY], 4), (reads, [.abs], 4), (reads, [.absX, .absY], 4),
      (reads, [.xInd], 6), (reads, [.indY], 5), (stores, [.zp], 3), (stores, [.zpX, .zpY], 4), (stores, [.abs], 4),
      (stores, [.absX, .absY], 5), (stores, [.xInd], 6), (stores, [.indY], 6), (modifies, [.zp], 5), (modifies, [.zpX], 6),
      (modifies, [.abs], 6), (modifies, [.absX], 7), (modifies, [.acc], 2), ([.BIT, .CPX, .CPY], [.imm], 2),
      ([.BIT, .CPX, .CPY], [.zp], 3), ([.BIT, .CPX, .CPY], [.abs], 4),
      ([.BCC, .BCS, .BEQ, .BMI, .BNE, .BPL, .BVC, .BVS], [.rel], 2),
      ([.TAX, .TAY, .TXA, .TYA, .TSX, .TXS, .INX, .INY, .DEX, .DEY, .NOP], [.imp], 2),
      ([.CLC, .SEC, .CLI, .SEI, .CLD, .SED, .CLV], [.imp], 2), ([.PHA, .PHP], [.imp], 3), ([.PLA, .PLP], [.imp], 4),
      ([.JMP], [.abs], 3), ([.JMP], [.ind], 5), ([.JSR], [.abs], 6), ([.RTS, .RTI], [.imp], 6), ([.BRK], [.imp], 7)]
  ∀ i : Instr, (∃ r ∈ rows, i.mnemonic ∈ r.1 ∧ i.mode ∈ r.2.1) ∧
    ∀ r ∈ rows, i.mnemonic ∈ r.1 → i.mode ∈ r.2.1 → i.tableBase = some r.2.2

/-- O17 (tier 2). Every instruction leaves A, X, Y and SP unchanged except the registers the spec says it writes, and never writes total or halted. The frame of every instruction over the registers, from the lists of 10 section 1. -/
def Obligations.EachInstructionWritesOnlyItsRegisters : Prop :=
  ∀ (i : Instr) (s t : State), exec i s = .next t →
    (¬(i.mnemonic ∈ [Mnemonic.LDA, .PLA, .TXA, .TYA, .ADC, .SBC, .AND, .ORA, .EOR] ∨ i.operand = .acc) → t.A = s.A) ∧
    (i.mnemonic ∉ [Mnemonic.LDX, .TAX, .TSX, .INX, .DEX] → t.X = s.X) ∧
    (i.mnemonic ∉ [Mnemonic.LDY, .TAY, .INY, .DEY] → t.Y = s.Y) ∧
    (i.mnemonic ∉ [Mnemonic.PHA, .PHP, .PLA, .PLP, .JSR, .RTS, .BRK, .RTI, .TXS] → t.SP = s.SP) ∧
    SameBookkeeping s t

/-- O18 (tier 2). Every instruction leaves every flag unchanged except those the summary table gives it, and PLP and RTI always clear B and U. The frame of every instruction over P: the table of 10 section 2, row by row (the spec marks the table as derived). -/
def Obligations.EachInstructionWritesOnlyItsFlags : Prop :=
  ∀ (i : Instr) (s t : State), exec i s = .next t →
    (i.mnemonic ∈ [Mnemonic.ADC, .SBC] → SameFlagsExcept [.N, .V, .Z, .C] s t) ∧
    (i.mnemonic = .BIT → SameFlagsExcept [.N, .V, .Z] s t) ∧
    (i.mnemonic ∈ [Mnemonic.CMP, .CPX, .CPY, .ASL, .LSR, .ROL, .ROR] → SameFlagsExcept [.N, .Z, .C] s t) ∧
    (i.mnemonic ∈ [Mnemonic.AND, .ORA, .EOR, .INC, .DEC, .INX, .INY, .DEX, .DEY, .LDA, .LDX, .LDY, .TAX, .TAY, .TXA, .TYA,
        .TSX, .PLA] → SameFlagsExcept [.N, .Z] s t) ∧
    (i.mnemonic ∈ [Mnemonic.STA, .STX, .STY, .TXS, .PHA, .PHP, .NOP, .JMP, .JSR, .RTS, .BCC, .BCS, .BEQ, .BMI, .BNE, .BPL,
        .BVC, .BVS] → SameFlagsExcept [] s t) ∧
    (i.mnemonic = .CLC → SameFlagsExcept [.C] s t ∧ t.flag .C = false) ∧
    (i.mnemonic = .SEC → SameFlagsExcept [.C] s t ∧ t.flag .C = true) ∧
    (i.mnemonic = .CLI → SameFlagsExcept [.I] s t ∧ t.flag .I = false) ∧
    (i.mnemonic ∈ [Mnemonic.SEI, .BRK] → SameFlagsExcept [.I] s t ∧ t.flag .I = true) ∧
    (i.mnemonic = .CLD → SameFlagsExcept [.D] s t ∧ t.flag .D = false) ∧
    (i.mnemonic = .SED → SameFlagsExcept [.D] s t ∧ t.flag .D = true) ∧
    (i.mnemonic = .CLV → SameFlagsExcept [.V] s t ∧ t.flag .V = false) ∧
    (i.mnemonic ∈ [Mnemonic.PLP, .RTI] → t.flag .B = false ∧ t.flag .U = false)

/-- O19 (tier 2). Every byte of memory is unchanged except the bytes the instruction stores to, whose addresses are computed as its meaning computes them. The frame of every instruction over memory. `storedAddrs` applies the resolver to the state after the PC advance, as the
meanings do, and the stack address to SP. -/
def Obligations.EachInstructionStoresOnlyWhereItSays : Prop :=
  ∀ (i : Instr) (s t : State), exec i s = .next t → SameMemoryExcept (storedAddrs i s) s t

/-- O20 (tier 2). A Step never sets P.B or P.U in the register, and no host operation does. 10 section 2: "after a clearing Reset, P.B reads 0 in the register at every step boundary", an inference the spec marks as its own. -/
def Obligations.BreakAndUnusedBitsNeverBecomeSet : Prop :=
  ∀ (f : Flag) (op : HostOp) (s t : State), (f = .B ∨ f = .U) → s.flag f = false → hostOp op s = .next t → t.flag f = false

/-- O21 (tier 2). ADC and SBC compute in binary for every value of P.D: changing P.D beforehand changes nothing but P.D afterwards. 42 R201: the binary sum or difference and its carry for every form in every state, so for both values of P.D, and the whole
result independent of P.D. -/
def Obligations.DecimalFlagDoesNotChangeArithmetic : Prop :=
  ∀ (i : Instr) (s : State) (d : Bool), i.mnemonic = .ADC ∨ i.mnemonic = .SBC →
    ∃ f t, i.operand = .mem f ∧ exec i s = .next t ∧ exec i (s.setFlag .D d) = .next (t.setFlag .D d) ∧
      let m := s.read (resolveMem f (s.advance i.size)).address
      let sum := s.A.toNat + m.toNat + (if s.flag .C then 1 else 0)
      let diff : Int := (s.A.toNat : Int) - m.toNat - (1 - (if s.flag .C then 1 else 0))
      (i.mnemonic = .ADC → t.A.toNat = sum % 256 ∧ t.flag .C = decide (sum > 255)) ∧
      (i.mnemonic = .SBC → (t.A.toNat : Int) = diff % 256 ∧ t.flag .C = decide (diff ≥ 0))

/-- O22 (tier 2). No instruction's result on registers, flags and memory depends on the cycle counters. 70 section 4: "No instruction's result depends on timing". -/
def Obligations.ResultsDoNotDependOnTiming : Prop :=
  ∀ (i : Instr) (s : State) (n m : Nat),
    ∃ t, exec i s = .next t ∧ exec i { s with remaining := n, total := m } = .next { t with total := m }

/-- O23 (tier 1). The Resolved Operand of Accumulator, Immediate, Zeropage, Zeropage,X, Zeropage,Y, Absolute and Relative, and who uses the restricted ones. 40 R125, R126, R128, as integers; the state is the one with PC advanced. The clauses on Accumulator, Implied, Immediate,
Zeropage,Y and Relative are beyond the rules cited; that the operand bytes come from the instruction is
`OperandBytesAreAssembled`. -/
def Obligations.DirectModesResolve : Prop :=
  ∀ (s : State) (b lo hi : Byte) (d : Int),
    resolve .acc s = .acc ∧ resolve .imp s = .imp ∧ resolve (.rel d) s = .disp d ∧
    resolve (.mem (.imm b)) s = .mem (.addr (s.PC - 1)) ∧
    (∃ a, resolve (.mem (.zp b)) s = .mem (.addr a) ∧ a.toNat = b.toNat) ∧
    (∃ a, resolve (.mem (.zpX b)) s = .mem (.addr a) ∧ a.toNat = (b.toNat + s.X.toNat) % 256) ∧
    (∃ a, resolve (.mem (.zpY b)) s = .mem (.addr a) ∧ a.toNat = (b.toNat + s.Y.toNat) % 256) ∧
    (∃ a, resolve (.mem (.abs (wordOf hi lo))) s = .mem (.addr a) ∧ a.toNat = 256 * hi.toNat + lo.toNat) ∧
    (∀ i : Instr, i.mode = .acc → i.mnemonic ∈ [Mnemonic.ASL, .LSR, .ROL, .ROR]) ∧
    (∀ i : Instr, i.mode = .zpY → i.mnemonic ∈ [Mnemonic.LDX, .STX]) ∧
    (∀ i : Instr, i.mode = .rel → i.mnemonic ∈ [Mnemonic.BCC, .BCS, .BEQ, .BMI, .BNE, .BPL, .BVC, .BVS])

/-- O24 (tier 2). The effective address and page-crossing report of Absolute,X, Absolute,Y, Indirect, X-Indexed Indirect and Indirect,Y-Indexed, as integers. 40 R129 to R133, as integers. `byteAt n` is the byte at address n modulo 65536. -/
def Obligations.IndexedAndIndirectModesResolve : Prop :=
  ∀ (s : State) (b lo hi : Byte),
    let byteAt := fun n : Nat => (s.read (BitVec.ofNat 16 n)).toNat
    let ptr := 256 * hi.toNat + lo.toNat
    let low := byteAt b.toNat
    let base := low + 256 * byteAt ((b.toNat + 1) % 256)
    let z := (b.toNat + s.X.toNat) % 256
    (∃ a, resolve (.mem (.absX (wordOf hi lo))) s = .mem (.addrPC a (decide (lo.toNat + s.X.toNat > 0xFF))) ∧
      a.toNat = (ptr + s.X.toNat) % 65536) ∧
    (∃ a, resolve (.mem (.absY (wordOf hi lo))) s = .mem (.addrPC a (decide (lo.toNat + s.Y.toNat > 0xFF))) ∧
      a.toNat = (ptr + s.Y.toNat) % 65536) ∧
    (∃ a, resolve (.mem (.ind (wordOf hi lo))) s = .mem (.addr a) ∧
      a.toNat = byteAt ptr + 256 * byteAt (256 * hi.toNat + (lo.toNat + 1) % 256)) ∧
    (∃ a, resolve (.mem (.xInd b)) s = .mem (.addr a) ∧ a.toNat = byteAt z + 256 * byteAt ((z + 1) % 256)) ∧
    (∃ a, resolve (.mem (.indY b)) s = .mem (.addrPC a (decide (low + s.Y.toNat > 0xFF))) ∧
      a.toNat = (base + s.Y.toNat) % 65536) ∧
    (∀ i : Instr, i.mode = .ind → i.mnemonic = .JMP)

/-- O25 (tier 2). A reported page crossing is exactly a change of the high byte from the base address to the effective address, the wrap at 0xFFFF included. The two definitions of page crossing agree in the three modes that report one, and no other mode reports one (40 section 1; the
spec marks the equivalence as derived). A row is a mode's operand and its base address. -/
def Obligations.PageCrossingIsAHighByteChange : Prop :=
  ∀ (s : State) (w : Address) (b : Byte),
    (∀ r ∈ [(MemForm.absX w, w), (MemForm.absY w, w), (MemForm.indY b, readWordInPage s (zeroPage b))],
      ∃ a crossed, resolveMem r.1 s = .addrPC a crossed ∧ (crossed = true ↔ highByte a ≠ highByte r.2)) ∧
    ∀ (f : MemForm) (a : Address) (crossed : Bool), resolveMem f s = .addrPC a crossed → f.mode ∈ [Mode.absX, .absY, .indY]

/-- O26 (tier 2). When an instruction with an Immediate operand is dispatched, the byte its executor reads is the operand byte it was decoded with. Why it does not matter that the meaning reads the operand through memory, as 40 section 2 says, and not the byte the instruction
carries (log entry 5). -/
def Obligations.ImmediateOperandIsTheByteRead : Prop :=
  ∀ (s : State) (i : Instr) (rest : List Byte) (b : Byte),
    decode [s.read s.PC, s.read (s.PC + 1), s.read (s.PC + 2)] = .ok (i, rest) → i.operand = .mem (.imm b) →
      s.read (resolveMem (.imm b) (s.advance i.size)).address = b

/-- O27 (tier 1). LDA, LDX and LDY load the byte at the resolved address, set Z and N from it, pay for a page crossing and change nothing else. 41 R160, R161, R162, every row; with frame and cost. -/
def Obligations.LoadsReadMemoryIntoARegister : Prop :=
  ∀ (s : State) (b : Byte) (w : Address),
    ∀ r ∈ [(Instr.ldaXInd b, MemForm.xInd b, Reg.A), (Instr.ldaZp b, MemForm.zp b, Reg.A),
      (Instr.ldaImm b, MemForm.imm b, Reg.A), (Instr.ldaAbs w, MemForm.abs w, Reg.A),
      (Instr.ldaIndY b, MemForm.indY b, Reg.A), (Instr.ldaZpX b, MemForm.zpX b, Reg.A),
      (Instr.ldaAbsY w, MemForm.absY w, Reg.A), (Instr.ldaAbsX w, MemForm.absX w, Reg.A),
      (Instr.ldxImm b, MemForm.imm b, Reg.X), (Instr.ldxZp b, MemForm.zp b, Reg.X),
      (Instr.ldxAbs w, MemForm.abs w, Reg.X), (Instr.ldxZpY b, MemForm.zpY b, Reg.X),
      (Instr.ldxAbsY w, MemForm.absY w, Reg.X), (Instr.ldyImm b, MemForm.imm b, Reg.Y),
      (Instr.ldyZp b, MemForm.zp b, Reg.Y), (Instr.ldyAbs w, MemForm.abs w, Reg.Y),
      (Instr.ldyZpX b, MemForm.zpX b, Reg.Y), (Instr.ldyAbsX w, MemForm.absX w, Reg.Y)],
      let op := resolveMem r.2.1 (s.advance r.1.size)
      let v := s.read op.address
      ∃ t, exec r.1 s = .next t ∧ t.reg r.2.2 = v ∧ ZNOf v t ∧
        SameRegsExcept [r.2.2] s t ∧ SameFlagsExcept [.Z, .N] s t ∧ FallsThrough r.1 s t ∧ SameMemory s t ∧
        SameBookkeeping s t ∧ Costs r.1 op.penalty t

/-- O28 (tier 1). STA, STX and STY write the register at the resolved address, write no flag, pay no penalty and change nothing else. 41 R163, R164, R165, every row; with frame and cost. -/
def Obligations.StoresWriteARegisterToMemory : Prop :=
  ∀ (s : State) (b : Byte) (w : Address),
    ∀ r ∈ [(Instr.staXInd b, MemForm.xInd b, Reg.A), (Instr.staZp b, MemForm.zp b, Reg.A),
      (Instr.staAbs w, MemForm.abs w, Reg.A), (Instr.staIndY b, MemForm.indY b, Reg.A),
      (Instr.staZpX b, MemForm.zpX b, Reg.A), (Instr.staAbsY w, MemForm.absY w, Reg.A),
      (Instr.staAbsX w, MemForm.absX w, Reg.A), (Instr.stxZp b, MemForm.zp b, Reg.X),
      (Instr.stxAbs w, MemForm.abs w, Reg.X), (Instr.stxZpY b, MemForm.zpY b, Reg.X),
      (Instr.styZp b, MemForm.zp b, Reg.Y), (Instr.styAbs w, MemForm.abs w, Reg.Y),
      (Instr.styZpX b, MemForm.zpX b, Reg.Y)],
      let op := resolveMem r.2.1 (s.advance r.1.size)
      ∃ t, exec r.1 s = .next t ∧ t.read op.address = s.reg r.2.2 ∧ SameMemoryExcept [op.address] s t ∧
        SameRegsExcept [] s t ∧ SameFlagsExcept [] s t ∧ FallsThrough r.1 s t ∧ SameBookkeeping s t ∧ Costs r.1 0 t

/-- O29 (tier 1). TAX, TAY, TXA, TYA and TSX copy a register and set Z and N from it; TXS copies X to SP and sets no flag. 41 section 3; the transfers are the spec's own decision D16, and that TXS sets no flag is D14. -/
def Obligations.TransfersCopyARegister : Prop :=
  ∀ s : State,
    (∀ r ∈ [(Instr.tax, Reg.A, Reg.X), (Instr.tay, Reg.A, Reg.Y), (Instr.txa, Reg.X, Reg.A), (Instr.tya, Reg.Y, Reg.A),
        (Instr.tsx, Reg.SP, Reg.X)],
      ∃ t, exec r.1 s = .next t ∧ t.reg r.2.2 = s.reg r.2.1 ∧ ZNOf (s.reg r.2.1) t ∧
        SameRegsExcept [r.2.2] s t ∧ SameFlagsExcept [.Z, .N] s t ∧ FallsThrough r.1 s t ∧ SameMemory s t ∧
        SameBookkeeping s t ∧ Costs r.1 0 t) ∧
    ∃ t, exec .txs s = .next t ∧ t.SP = s.X ∧
      SameRegsExcept [.SP] s t ∧ SameFlagsExcept [] s t ∧ FallsThrough .txs s t ∧ SameMemory s t ∧
      SameBookkeeping s t ∧ Costs .txs 0 t

/-- O30 (tier 1). ADC writes the sum A + m + C modulo 256, C iff the sum exceeds 255, V iff operands of one sign give the other sign, and Z and N. 42 R202, R210, every row; with frame and cost. -/
def Obligations.AddWithCarryResult : Prop :=
  ∀ (s : State) (b : Byte) (w : Address),
    ∀ r ∈ [(Instr.adcXInd b, MemForm.xInd b), (Instr.adcZp b, MemForm.zp b), (Instr.adcImm b, MemForm.imm b),
      (Instr.adcAbs w, MemForm.abs w), (Instr.adcIndY b, MemForm.indY b), (Instr.adcZpX b, MemForm.zpX b),
      (Instr.adcAbsY w, MemForm.absY w), (Instr.adcAbsX w, MemForm.absX w)],
      let op := resolveMem r.2 (s.advance r.1.size)
      let m := s.read op.address
      let sum := s.A.toNat + m.toNat + (if s.flag .C then 1 else 0)
      ∃ t, exec r.1 s = .next t ∧ t.A.toNat = sum % 256 ∧ t.flag .C = decide (sum > 255) ∧
        t.flag .V = decide ((s.A ^^^ m) &&& 0x80#8 = 0#8 ∧ (s.A ^^^ t.A) &&& 0x80#8 ≠ 0#8) ∧ ZNOf t.A t ∧
        SameRegsExcept [.A] s t ∧ SameFlagsExcept [.N, .Z, .C, .V] s t ∧ FallsThrough r.1 s t ∧ SameMemory s t ∧
        SameBookkeeping s t ∧ Costs r.1 op.penalty t

/-- O31 (tier 1). SBC writes A - m - (1 - C) modulo 256, C iff there is no borrow, V iff operands of opposite sign give a result of the other sign, and Z and N. 42 R211 with the core of R203 (the second sentence of which is `SubtractIsAddOfComplement`), every row; with frame and cost. -/
def Obligations.SubtractWithCarryResult : Prop :=
  ∀ (s : State) (b : Byte) (w : Address),
    ∀ r ∈ [(Instr.sbcXInd b, MemForm.xInd b), (Instr.sbcZp b, MemForm.zp b), (Instr.sbcImm b, MemForm.imm b),
      (Instr.sbcAbs w, MemForm.abs w), (Instr.sbcIndY b, MemForm.indY b), (Instr.sbcZpX b, MemForm.zpX b),
      (Instr.sbcAbsY w, MemForm.absY w), (Instr.sbcAbsX w, MemForm.absX w)],
      let op := resolveMem r.2 (s.advance r.1.size)
      let m := s.read op.address
      let diff : Int := (s.A.toNat : Int) - m.toNat - (1 - (if s.flag .C then 1 else 0))
      ∃ t, exec r.1 s = .next t ∧ (t.A.toNat : Int) = diff % 256 ∧ t.flag .C = decide (diff ≥ 0) ∧
        t.flag .V = decide ((s.A ^^^ m) &&& 0x80#8 ≠ 0#8 ∧ (s.A ^^^ t.A) &&& 0x80#8 ≠ 0#8) ∧ ZNOf t.A t ∧
        SameRegsExcept [.A] s t ∧ SameFlagsExcept [.N, .Z, .C, .V] s t ∧ FallsThrough r.1 s t ∧ SameMemory s t ∧
        SameBookkeeping s t ∧ Costs r.1 op.penalty t

/-- O32 (tier 2). The subtract core on (a, m, c) is the add core on (a, m xor 0xFF, c): same result, carry and overflow. 42 section 1; the spec marks the equality as derived. -/
def Obligations.SubtractIsAddOfComplement : Prop :=
  ∀ (a m : Byte) (c : Bool), subCore a m c = addCore a (m ^^^ 0xFF#8) c

/-- O33 (tier 2). Overflow of ADC and SBC is signed overflow: the sum or difference of the bytes as two's-complement numbers falls outside -128..127. "signed overflow of ADC/SBC" (10 section 2), against the bit formulas of 42 section 1. -/
def Obligations.OverflowIsSignedOverflow : Prop :=
  ∀ (a m : Byte) (c : Bool),
    ((addCore a m c).overflow = true ↔ ¬(-128 ≤ a.toInt + m.toInt + bitOf c ∧ a.toInt + m.toInt + bitOf c ≤ 127)) ∧
    ((subCore a m c).overflow = true ↔
      ¬(-128 ≤ a.toInt - m.toInt - (1 - bitOf c) ∧ a.toInt - m.toInt - (1 - bitOf c) ≤ 127))

/-- O34 (tier 1). AND, ORA and EOR combine A with the byte at the resolved address bit by bit, set Z and N, and leave C and V alone. 42 R212, R213, R214, every row; with frame and cost. -/
def Obligations.LogicalOperationsOnA : Prop :=
  ∀ (s : State) (b : Byte) (w : Address),
    ∀ r ∈ [(Instr.andXInd b, MemForm.xInd b, Bool.and), (Instr.andZp b, MemForm.zp b, Bool.and),
      (Instr.andImm b, MemForm.imm b, Bool.and), (Instr.andAbs w, MemForm.abs w, Bool.and),
      (Instr.andIndY b, MemForm.indY b, Bool.and), (Instr.andZpX b, MemForm.zpX b, Bool.and),
      (Instr.andAbsY w, MemForm.absY w, Bool.and), (Instr.andAbsX w, MemForm.absX w, Bool.and),
      (Instr.oraXInd b, MemForm.xInd b, Bool.or), (Instr.oraZp b, MemForm.zp b, Bool.or),
      (Instr.oraImm b, MemForm.imm b, Bool.or), (Instr.oraAbs w, MemForm.abs w, Bool.or),
      (Instr.oraIndY b, MemForm.indY b, Bool.or), (Instr.oraZpX b, MemForm.zpX b, Bool.or),
      (Instr.oraAbsY w, MemForm.absY w, Bool.or), (Instr.oraAbsX w, MemForm.absX w, Bool.or),
      (Instr.eorXInd b, MemForm.xInd b, Bool.xor), (Instr.eorZp b, MemForm.zp b, Bool.xor),
      (Instr.eorImm b, MemForm.imm b, Bool.xor), (Instr.eorAbs w, MemForm.abs w, Bool.xor),
      (Instr.eorIndY b, MemForm.indY b, Bool.xor), (Instr.eorZpX b, MemForm.zpX b, Bool.xor),
      (Instr.eorAbsY w, MemForm.absY w, Bool.xor), (Instr.eorAbsX w, MemForm.absX w, Bool.xor)],
      let op := resolveMem r.2.1 (s.advance r.1.size)
      let m := s.read op.address
      ∃ t, exec r.1 s = .next t ∧ (∀ k < 8, t.A.getLsbD k = r.2.2 (s.A.getLsbD k) (m.getLsbD k)) ∧ ZNOf t.A t ∧
        SameRegsExcept [.A] s t ∧ SameFlagsExcept [.N, .Z] s t ∧ FallsThrough r.1 s t ∧ SameMemory s t ∧
        SameBookkeeping s t ∧ Costs r.1 op.penalty t

/-- O35 (tier 1). BIT sets Z iff A and m have no common bit, N and V from bits 7 and 6 of m, and changes nothing else. 42 section 3; BIT is the spec's own decision D15. -/
def Obligations.BitTestsMemoryAgainstA : Prop :=
  ∀ (s : State) (b : Byte) (w : Address),
    ∀ r ∈ [(Instr.bitZp b, MemForm.zp b), (Instr.bitAbs w, MemForm.abs w)],
      let m := s.read (resolveMem r.2 (s.advance r.1.size)).address
      ∃ t, exec r.1 s = .next t ∧ t.flag .Z = decide (s.A &&& m = 0#8) ∧ t.flag .N = m.getLsbD 7 ∧ t.flag .V = m.getLsbD 6 ∧
        SameRegsExcept [] s t ∧ SameFlagsExcept [.N, .V, .Z] s t ∧ FallsThrough r.1 s t ∧ SameMemory s t ∧
        SameBookkeeping s t ∧ Costs r.1 0 t

/-- O36 (tier 1). CMP, CPX and CPY set C iff the register is at least m as unsigned bytes, Z iff equal, N from bit 7 of the difference, and change nothing else. 42 R204, R216, R217, R218, every row; with frame and cost. -/
def Obligations.ComparesWriteOnlyFlags : Prop :=
  ∀ (s : State) (b : Byte) (w : Address),
    ∀ r ∈ [(Instr.cmpXInd b, MemForm.xInd b, Reg.A), (Instr.cmpZp b, MemForm.zp b, Reg.A),
      (Instr.cmpImm b, MemForm.imm b, Reg.A), (Instr.cmpAbs w, MemForm.abs w, Reg.A),
      (Instr.cmpIndY b, MemForm.indY b, Reg.A), (Instr.cmpZpX b, MemForm.zpX b, Reg.A),
      (Instr.cmpAbsY w, MemForm.absY w, Reg.A), (Instr.cmpAbsX w, MemForm.absX w, Reg.A),
      (Instr.cpxImm b, MemForm.imm b, Reg.X), (Instr.cpxZp b, MemForm.zp b, Reg.X),
      (Instr.cpxAbs w, MemForm.abs w, Reg.X), (Instr.cpyImm b, MemForm.imm b, Reg.Y),
      (Instr.cpyZp b, MemForm.zp b, Reg.Y), (Instr.cpyAbs w, MemForm.abs w, Reg.Y)],
      let op := resolveMem r.2.1 (s.advance r.1.size)
      let m := (s.read op.address).toNat
      let reg := (s.reg r.2.2).toNat
      ∃ t, exec r.1 s = .next t ∧ t.flag .C = decide (reg ≥ m) ∧ t.flag .Z = decide (reg = m) ∧
        t.flag .N = decide ((reg + 256 - m) % 256 ≥ 128) ∧
        SameRegsExcept [] s t ∧ SameFlagsExcept [.N, .Z, .C] s t ∧ FallsThrough r.1 s t ∧ SameMemory s t ∧
        SameBookkeeping s t ∧ Costs r.1 op.penalty t

/-- O37 (tier 1). INC and DEC add or subtract 1 modulo 256 at the resolved address, set Z and N, pay no penalty and change nothing else. 42 R219, R220, every row; with frame and cost. -/
def Obligations.IncrementAndDecrementMemory : Prop :=
  ∀ (s : State) (b : Byte) (w : Address),
    ∀ r ∈ [(Instr.incZp b, MemForm.zp b, 1), (Instr.incAbs w, MemForm.abs w, 1), (Instr.incZpX b, MemForm.zpX b, 1),
      (Instr.incAbsX w, MemForm.absX w, 1), (Instr.decZp b, MemForm.zp b, 255), (Instr.decAbs w, MemForm.abs w, 255),
      (Instr.decZpX b, MemForm.zpX b, 255), (Instr.decAbsX w, MemForm.absX w, 255)],
      let a := (resolveMem r.2.1 (s.advance r.1.size)).address
      ∃ t, exec r.1 s = .next t ∧ (t.read a).toNat = ((s.read a).toNat + r.2.2) % 256 ∧ ZNOf (t.read a) t ∧
        SameMemoryExcept [a] s t ∧ SameRegsExcept [] s t ∧ SameFlagsExcept [.N, .Z] s t ∧ FallsThrough r.1 s t ∧
        SameBookkeeping s t ∧ Costs r.1 0 t

/-- O38 (tier 1). INX, INY, DEX and DEY add or subtract 1 modulo 256 in X or Y, set Z and N and change nothing else. 42 section 5; the four are the spec's own decision D16. -/
def Obligations.IncrementAndDecrementIndex : Prop :=
  ∀ s : State,
    ∀ r ∈ [(Instr.inx, Reg.X, 1), (Instr.iny, Reg.Y, 1), (Instr.dex, Reg.X, 255), (Instr.dey, Reg.Y, 255)],
      ∃ t, exec r.1 s = .next t ∧ (t.reg r.2.1).toNat = ((s.reg r.2.1).toNat + r.2.2) % 256 ∧ ZNOf (t.reg r.2.1) t ∧
        SameRegsExcept [r.2.1] s t ∧ SameFlagsExcept [.N, .Z] s t ∧ FallsThrough r.1 s t ∧ SameMemory s t ∧
        SameBookkeeping s t ∧ Costs r.1 0 t

/-- O39 (tier 1). ASL doubles modulo 256 and LSR halves the accumulator or a memory byte; C gets the bit shifted out, Z and N follow the result. 43 R251, R252, the accumulator row and the memory rows; with frame and cost. A row gives the result as a function of the
old value and the previous carry as integers, and the number of the bit shifted out. -/
def Obligations.ShiftsOfAccumulatorAndMemory : Prop :=
  ∀ (s : State) (b : Byte) (w : Address),
    let c := if s.flag .C then 1 else 0
    (∀ r ∈ ([(Instr.aslAcc, fun v _ => 2 * v % 256, 7), (Instr.lsrAcc, fun v _ => v / 2, 0)] : List (Instr × (Nat → Nat → Nat) × Nat)),
      ∃ t, exec r.1 s = .next t ∧ t.A.toNat = r.2.1 s.A.toNat c ∧ t.flag .C = s.A.getLsbD r.2.2 ∧ ZNOf t.A t ∧
        SameRegsExcept [.A] s t ∧ SameFlagsExcept [.N, .Z, .C] s t ∧ FallsThrough r.1 s t ∧ SameMemory s t ∧
        SameBookkeeping s t ∧ Costs r.1 0 t) ∧
    ∀ r ∈ ([(Instr.aslZp b, MemForm.zp b, fun v _ => 2 * v % 256, 7),
        (Instr.aslAbs w, MemForm.abs w, fun v _ => 2 * v % 256, 7),
        (Instr.aslZpX b, MemForm.zpX b, fun v _ => 2 * v % 256, 7),
        (Instr.aslAbsX w, MemForm.absX w, fun v _ => 2 * v % 256, 7),
        (Instr.lsrZp b, MemForm.zp b, fun v _ => v / 2, 0), (Instr.lsrAbs w, MemForm.abs w, fun v _ => v / 2, 0),
        (Instr.lsrZpX b, MemForm.zpX b, fun v _ => v / 2, 0), (Instr.lsrAbsX w, MemForm.absX w, fun v _ => v / 2, 0)] : List (Instr × MemForm × (Nat → Nat → Nat) × Nat)),
      let a := (resolveMem r.2.1 (s.advance r.1.size)).address
      ∃ t, exec r.1 s = .next t ∧ (t.read a).toNat = r.2.2.1 (s.read a).toNat c ∧ t.flag .C = (s.read a).getLsbD r.2.2.2 ∧
        ZNOf (t.read a) t ∧ SameMemoryExcept [a] s t ∧ SameRegsExcept [] s t ∧ SameFlagsExcept [.N, .Z, .C] s t ∧
        FallsThrough r.1 s t ∧ SameBookkeeping s t ∧ Costs r.1 0 t

/-- O40 (tier 1). ROL and ROR rotate the accumulator or a memory byte through the carry; C gets the bit shifted out, Z and N follow the result. 43 R253, R254, the accumulator row and the memory rows; with frame and cost. A row gives the result as a function of the
old value and the previous carry as integers, and the number of the bit shifted out. -/
def Obligations.RotatesThroughCarry : Prop :=
  ∀ (s : State) (b : Byte) (w : Address),
    let c := if s.flag .C then 1 else 0
    (∀ r ∈ ([(Instr.rolAcc, fun v c => 2 * v % 256 + c, 7), (Instr.rorAcc, fun v c => v / 2 + 128 * c, 0)] : List (Instr × (Nat → Nat → Nat) × Nat)),
      ∃ t, exec r.1 s = .next t ∧ t.A.toNat = r.2.1 s.A.toNat c ∧ t.flag .C = s.A.getLsbD r.2.2 ∧ ZNOf t.A t ∧
        SameRegsExcept [.A] s t ∧ SameFlagsExcept [.N, .Z, .C] s t ∧ FallsThrough r.1 s t ∧ SameMemory s t ∧
        SameBookkeeping s t ∧ Costs r.1 0 t) ∧
    ∀ r ∈ ([(Instr.rolZp b, MemForm.zp b, fun v c => 2 * v % 256 + c, 7),
        (Instr.rolAbs w, MemForm.abs w, fun v c => 2 * v % 256 + c, 7),
        (Instr.rolZpX b, MemForm.zpX b, fun v c => 2 * v % 256 + c, 7),
        (Instr.rolAbsX w, MemForm.absX w, fun v c => 2 * v % 256 + c, 7),
        (Instr.rorZp b, MemForm.zp b, fun v c => v / 2 + 128 * c, 0),
        (Instr.rorAbs w, MemForm.abs w, fun v c => v / 2 + 128 * c, 0),
        (Instr.rorZpX b, MemForm.zpX b, fun v c => v / 2 + 128 * c, 0),
        (Instr.rorAbsX w, MemForm.absX w, fun v c => v / 2 + 128 * c, 0)] : List (Instr × MemForm × (Nat → Nat → Nat) × Nat)),
      let a := (resolveMem r.2.1 (s.advance r.1.size)).address
      ∃ t, exec r.1 s = .next t ∧ (t.read a).toNat = r.2.2.1 (s.read a).toNat c ∧ t.flag .C = (s.read a).getLsbD r.2.2.2 ∧
        ZNOf (t.read a) t ∧ SameMemoryExcept [a] s t ∧ SameRegsExcept [] s t ∧ SameFlagsExcept [.N, .Z, .C] s t ∧
        FallsThrough r.1 s t ∧ SameBookkeeping s t ∧ Costs r.1 0 t

/-- O41 (tier 1). A taken branch adds its displacement to the advanced PC and costs 1 more, or 2 across a page; one not taken changes only PC and the counters. 44 section 1; the flag each branch tests is the spec's own decision D16, and the page test from the advanced PC is D23. -/
def Obligations.BranchesTestOneFlag : Prop :=
  ∀ (s : State) (d : Int), -128 ≤ d → d ≤ 127 →
    ∀ r ∈ [(Instr.bcc d, !s.flag .C), (Instr.bcs d, s.flag .C), (Instr.beq d, s.flag .Z), (Instr.bmi d, s.flag .N),
        (Instr.bne d, !s.flag .Z), (Instr.bpl d, !s.flag .N), (Instr.bvc d, !s.flag .V), (Instr.bvs d, s.flag .V)],
      ∃ t, exec r.1 s = .next t ∧
        (r.2 = false → t.PC = s.PC + 2 ∧ Costs r.1 0 t) ∧
        (r.2 = true → (t.PC.toNat : Int) = ((s.PC.toNat : Int) + 2 + d) % 65536 ∧
          Costs r.1 (if highByte (s.PC + 2) = highByte t.PC then 1 else 2) t) ∧
        SameRegsExcept [] s t ∧ SameFlagsExcept [] s t ∧ SameMemory s t ∧ SameBookkeeping s t

/-- O42 (tier 1). JMP absolute sets PC to its operand; JMP indirect reads the target with the page-wrap bug; neither changes anything else. 44 section 2; JMP is the spec's own decision D16. -/
def Obligations.JumpsSetThePC : Prop :=
  ∀ (s : State) (w : Address),
    ∀ r ∈ [(Instr.jmpAbs w, w), (Instr.jmpInd w, wordOf (s.read (wordOf (highByte w) (lowByte w + 1))) (s.read w))],
      ∃ t, exec r.1 s = .next t ∧ t.PC = r.2 ∧ SameRegsExcept [] s t ∧ SameFlagsExcept [] s t ∧ SameMemory s t ∧
        SameBookkeeping s t ∧ Costs r.1 0 t

/-- O43 (tier 1). JSR pushes the address of its own last byte, high byte first, and jumps. 44 R280; with frame and cost. -/
def Obligations.JumpToSubroutinePushesItsLastByte : Prop :=
  ∀ (s : State) (w : Address),
    ∃ t, exec (.jsr w) s = .next t ∧ t.PC = w ∧ t.SP = s.SP - 2 ∧
      t.read (stackAddr s.SP) = highByte (s.PC + 2) ∧ t.read (stackAddr (s.SP - 1)) = lowByte (s.PC + 2) ∧
      SameMemoryExcept [stackAddr s.SP, stackAddr (s.SP - 1)] s t ∧
      SameRegsExcept [.SP] s t ∧ SameFlagsExcept [] s t ∧ SameBookkeeping s t ∧ Costs (.jsr w) 0 t

/-- O44 (tier 1). RTS pulls the low byte, then the high byte, and sets PC to that word plus 1. 44 R281; with frame and cost. -/
def Obligations.ReturnFromSubroutinePullsAndAddsOne : Prop :=
  ∀ s : State,
    ∃ t, exec .rts s = .next t ∧
      t.PC = wordOf (s.read (stackAddr (s.SP + 2))) (s.read (stackAddr (s.SP + 1))) + 1 ∧ t.SP = s.SP + 2 ∧
      SameMemory s t ∧ SameRegsExcept [.SP] s t ∧ SameFlagsExcept [] s t ∧ SameBookkeeping s t ∧ Costs .rts 0 t

/-- O45 (tier 2). RTS right after JSR returns to the address after the JSR with SP as it was and every byte outside the stack page unchanged. 95 L1-7 for every state and target. -/
def Obligations.SubroutineCallReturnsAfterIt : Prop :=
  ∀ (s t u : State) (w : Address), exec (.jsr w) s = .next t → exec .rts t = .next u →
    u.PC = s.PC + 3 ∧ SameRegsExcept [] s u ∧ SameFlagsExcept [] s u ∧
    SameMemoryExcept [stackAddr s.SP, stackAddr (s.SP - 1)] s u

/-- O46 (tier 1). PHA writes A at 0x0100 + SP and decrements SP; PLA increments SP, loads A from 0x0100 + SP and sets Z and N. 45 R300, and PLA (45 section 1); with frame and cost. That PHA then PLA restores A is `PulledAIsThePushedA`. -/
def Obligations.PushAndPullOfA : Prop :=
  ∀ s : State,
    (∃ t, exec .pha s = .next t ∧ t.read (stackAddr s.SP) = s.A ∧ t.SP = s.SP - 1 ∧ SameMemoryExcept [stackAddr s.SP] s t ∧
      SameRegsExcept [.SP] s t ∧ SameFlagsExcept [] s t ∧ FallsThrough .pha s t ∧ SameBookkeeping s t ∧ Costs .pha 0 t) ∧
    ∃ t, exec .pla s = .next t ∧ t.A = s.read (stackAddr (s.SP + 1)) ∧ t.SP = s.SP + 1 ∧ ZNOf t.A t ∧
      SameMemory s t ∧ SameRegsExcept [.A, .SP] s t ∧ SameFlagsExcept [.N, .Z] s t ∧ FallsThrough .pla s t ∧
      SameBookkeeping s t ∧ Costs .pla 0 t

/-- O47 (tier 2). PLA after PHA restores A and sets Z and N from it, whatever the flags and A, X, Y became in between. 95 L1-6: "regardless of intervening flag state"; the state in between may differ in every register but SP. -/
def Obligations.PulledAIsThePushedA : Prop :=
  ∀ s t u v : State, exec .pha s = .next t → u.SP = t.SP → SameMemory t u → exec .pla u = .next v →
    v.A = s.A ∧ v.SP = s.SP ∧ ZNOf s.A v

/-- O48 (tier 1). PHP pushes P with bits 4 and 5 set and leaves P alone; PLP loads P from the stack with bits 4 and 5 cleared. 45 section 1; both are the spec's own decisions D12 and D13. -/
def Obligations.StatusIsPushedWithBAndUSetAndPulledWithThemCleared : Prop :=
  ∀ s : State,
    (∃ t, exec .php s = .next t ∧
      (∀ k < 8, (t.read (stackAddr s.SP)).getLsbD k = (s.P.getLsbD k || decide (k = 4 ∨ k = 5))) ∧ t.SP = s.SP - 1 ∧
      SameMemoryExcept [stackAddr s.SP] s t ∧ SameRegsExcept [.SP] s t ∧ SameFlagsExcept [] s t ∧ FallsThrough .php s t ∧
      SameBookkeeping s t ∧ Costs .php 0 t) ∧
    ∃ t, exec .plp s = .next t ∧ t.flag .B = false ∧ t.flag .U = false ∧
      (∀ f : Flag, f ≠ .B → f ≠ .U → t.flag f = (s.read (stackAddr (s.SP + 1))).getLsbD f.bit) ∧ t.SP = s.SP + 1 ∧
      SameMemory s t ∧ SameRegsExcept [.SP] s t ∧ FallsThrough .plp s t ∧ SameBookkeeping s t ∧ Costs .plp 0 t

/-- O49 (tier 1). CLC, SEC, CLI, SEI, CLD, SED and CLV write the one flag they name and nothing else. 45 section 2; the seven are the spec's own decision D16. -/
def Obligations.FlagInstructionsWriteOneFlag : Prop :=
  ∀ s : State,
    ∀ r ∈ [(Instr.clc, Flag.C, false), (Instr.sec, Flag.C, true), (Instr.cli, Flag.I, false), (Instr.sei, Flag.I, true),
        (Instr.cld, Flag.D, false), (Instr.sed, Flag.D, true), (Instr.clv, Flag.V, false)],
      ∃ t, exec r.1 s = .next t ∧ t.flag r.2.1 = r.2.2 ∧ SameFlagsExcept [r.2.1] s t ∧ SameRegsExcept [] s t ∧
        FallsThrough r.1 s t ∧ SameMemory s t ∧ SameBookkeeping s t ∧ Costs r.1 0 t

/-- O50 (tier 1). BRK pushes PC0 + 2 and P with B and bit 5 set, sets P.I and goes through the vector at 0xFFFE, whatever P.I holds. 45 section 3 and 60 section 2; the return address, the setting of P.I and the unchanged register bits are the spec's own
decisions D9, D10 and D11. -/
def Obligations.BreakTakesTheTrap : Prop :=
  ∀ s : State,
    ∃ t, exec .brk s = .next t ∧ t.SP = s.SP - 3 ∧
      t.read (stackAddr s.SP) = highByte (s.PC + 2) ∧ t.read (stackAddr (s.SP - 1)) = lowByte (s.PC + 2) ∧
      (∀ k < 8, (t.read (stackAddr (s.SP - 2))).getLsbD k = (s.P.getLsbD k || decide (k = 4 ∨ k = 5))) ∧
      t.PC = wordOf (s.read 0xFFFF) (s.read 0xFFFE) ∧ t.flag .I = true ∧ SameFlagsExcept [.I] s t ∧
      SameMemoryExcept [stackAddr s.SP, stackAddr (s.SP - 1), stackAddr (s.SP - 2)] s t ∧
      SameRegsExcept [.SP] s t ∧ SameBookkeeping s t ∧ Costs .brk 0 t

/-- O51 (tier 1). RTI loads P from the stack with B and bit 5 cleared, then PC low and high with no adjustment. 45 R312; with frame and cost. -/
def Obligations.ReturnFromBreakRestoresStatusAndPC : Prop :=
  ∀ s : State,
    ∃ t, exec .rti s = .next t ∧ t.flag .B = false ∧ t.flag .U = false ∧
      (∀ f : Flag, f ≠ .B → f ≠ .U → t.flag f = (s.read (stackAddr (s.SP + 1))).getLsbD f.bit) ∧
      t.PC = wordOf (s.read (stackAddr (s.SP + 3))) (s.read (stackAddr (s.SP + 2))) ∧ t.SP = s.SP + 3 ∧
      SameMemory s t ∧ SameRegsExcept [.SP] s t ∧ SameBookkeeping s t ∧ Costs .rti 0 t

/-- O52 (tier 2). RTI right after BRK gives PC0 + 2, the old SP, and the old P with B and U cleared. 60 section 2: "P.I returns to its value before BRK"; with the spec's own decisions D9 and D10. -/
def Obligations.TrapReturnRestoresTheInterruptedState : Prop :=
  ∀ s t u : State, exec .brk s = .next t → exec .rti t = .next u →
    u.PC = s.PC + 2 ∧ SameRegsExcept [] s u ∧ SameFlagsExcept [.B, .U] s u ∧ u.flag .B = false ∧ u.flag .U = false ∧
    SameMemoryExcept [stackAddr s.SP, stackAddr (s.SP - 1), stackAddr (s.SP - 2)] s u

/-- O53 (tier 1). NOP changes nothing but PC and the cost. 45 R313; with cost. -/
def Obligations.NopOnlyAdvances : Prop :=
  ∀ s : State,
    ∃ t, exec .nop s = .next t ∧ SameRegsExcept [] s t ∧ SameFlagsExcept [] s t ∧ FallsThrough .nop s t ∧ SameMemory s t ∧
      SameBookkeeping s t ∧ t.remaining = 2

/-- O54 (tier 2). Push and Pull move SP modulo 256, touch the one byte at 0x0100 + SP and never leave page 1; Pull after Push gives the byte back. 20 R71, R72, R73. -/
def Obligations.PushAndPullWrapInTheStackPage : Prop :=
  ∀ (s : State) (v : Byte),
    (stackAddr s.SP).toNat = 0x0100 + s.SP.toNat ∧
    (s.push v).read (stackAddr s.SP) = v ∧ SameMemoryExcept [stackAddr s.SP] s (s.push v) ∧
    (s.push v).SP.toNat = (s.SP.toNat + 255) % 256 ∧
    s.pop.SP.toNat = (s.SP.toNat + 1) % 256 ∧ SameMemory s s.pop ∧ s.top = s.read (stackAddr s.pop.SP) ∧
    (s.push v).top = v ∧ (s.push v).pop.SP = s.SP ∧
    (s.SP = 0x00 → (s.push v).read 0x0100 = v ∧ (s.push v).SP = 0xFF) ∧
    (s.SP = 0xFF → s.pop.SP = 0x00 ∧ s.top = s.read 0x0100) ∧
    ∀ p : Byte, 0x0100 ≤ (stackAddr p).toNat ∧ (stackAddr p).toNat ≤ 0x01FF

/-- O55 (tier 2). A read gives the last byte written at its address and every other address is untouched; equal contents are equal data. 20 section 1 with the spec's own decision D24 (no side effects, no read-only region), and the canonical form of the model's memory. -/
def Obligations.MemoryHoldsTheLastByteWritten : Prop :=
  (∀ (s : State) (a b : Address) (v : Byte),
      (s.write a v).read a = v ∧ (b ≠ a → (s.write a v).read b = s.read b) ∧
      { s.write a v with mem := s.mem } = s ∧ (s.mem.wf → (s.write a v).mem.wf)) ∧
  ∀ m n : Memory, m.wf → n.wf → (∀ a < 65536, m.read a = n.read a) → m = n

/-- O56 (tier 2). Load puts byte i at (offset + i) mod 65536, the last byte of an address winning, and changes nothing but memory. 46 section 3, the wrap by the spec's own decision D20. -/
def Obligations.LoadCopiesTheImage : Prop :=
  ∀ (bytes : List Byte) (offset : Address) (s : State),
    (∀ i, (h : i < bytes.length) → (∀ j, i < j → j < bytes.length → offset + BitVec.ofNat 16 j ≠ offset + BitVec.ofNat 16 i) →
      (hostLoad bytes offset s).read (offset + BitVec.ofNat 16 i) = bytes[i]) ∧
    (∀ a : Address, (∀ i < bytes.length, a ≠ offset + BitVec.ofNat 16 i) → (hostLoad bytes offset s).read a = s.read a) ∧
    { hostLoad bytes offset s with mem := s.mem } = s

/-- O57 (tier 1). Reset takes PC from 0xFFFC/0xFFFD, sets SP to 0xFF, clears P or leaves it, empties remaining and the latch, and leaves the rest. 70 section 1; what Reset leaves alone is the spec's own decisions D17 and D18, and the value of SP is D31. -/
def Obligations.ResetSetsPCAndSP : Prop :=
  ∀ (c : Bool) (s : State),
    let t := hostReset c s
    t.PC = wordOf (s.read 0xFFFD) (s.read 0xFFFC) ∧ t.SP = 0xFF ∧ t.P = (if c then 0 else s.P) ∧ t.remaining = 0 ∧ t.halted = none ∧
    t.A = s.A ∧ t.X = s.X ∧ t.Y = s.Y ∧ t.total = s.total ∧ t.mem = s.mem

/-- O58 (tier 1). State.reset is Reset(clear_status = true) at power-on, with SP = 0xFF, P = 0, all memory 0x00 and PC the all-zero vector. 10 section 5. That A, X and Y are 0 and that clear_status is true are the model's choices (DESIGN CHOICE, log entries 1 and 2);
PC follows by log entry 3. -/
def Obligations.ResetStateIsResetAtPowerOn : Prop :=
  (∀ (sp p : Byte) (pc : Address), State.reset = hostReset true (powerOn ⟨0, 0, 0, sp, pc, p⟩)) ∧
  State.reset.SP = 0xFF ∧ State.reset.P = 0 ∧ State.reset.PC = 0 ∧ State.reset.remaining = 0 ∧ State.reset.total = 0 ∧
  State.reset.halted = none ∧ ∀ a : Address, State.reset.read a = 0

/-- O59 (tier 1). ResumePast moves PC one past the offending byte and clears the latch, and does nothing when nothing is latched. 46 section 3; the operation is the spec's own decision D6. -/
def Obligations.ResumePastSkipsOneByte : Prop :=
  ∀ s : State,
    (∀ e, s.halted = some e → resumePast s = { s with PC := e.addr + 1, halted := none }) ∧
    (s.halted = none → resumePast s = s)

/-- O60 (tier 2). Inspect and its memory reads show the whole state: two states in canonical form that Inspect cannot tell apart are equal. 60 section 4: the host can "observe every register, flag, counter and memory byte with Inspect". That Inspect shows `halted` is D26. -/
def Obligations.InspectShowsTheWholeState : Prop :=
  (∀ s t : State, s.mem.wf → t.mem.wf → inspect s = inspect t → (∀ a, inspectByte s a = inspectByte t a) → s = t) ∧
  ∀ s : State, hostOp .inspect s = .next s
end

