-- ==== Sys2Proof/Laws/State.lean ====
section
/-! SUPPORT. What each update of State does to each field, true by definition, and to the two views of a field, `read` and
`flag`; so that no proof unfolds a record update. -/

namespace Sys2Proof.Machine

@[simp] theorem setA_A (s : State) (v : Byte) : (s.setA v).A = v := rfl
@[simp] theorem setA_X (s : State) (v : Byte) : (s.setA v).X = s.X := rfl
@[simp] theorem setA_Y (s : State) (v : Byte) : (s.setA v).Y = s.Y := rfl
@[simp] theorem setA_SP (s : State) (v : Byte) : (s.setA v).SP = s.SP := rfl
@[simp] theorem setA_PC (s : State) (v : Byte) : (s.setA v).PC = s.PC := rfl
@[simp] theorem setA_P (s : State) (v : Byte) : (s.setA v).P = s.P := rfl
@[simp] theorem setA_mem (s : State) (v : Byte) : (s.setA v).mem = s.mem := rfl
@[simp] theorem setA_remaining (s : State) (v : Byte) : (s.setA v).remaining = s.remaining := rfl
@[simp] theorem setA_total (s : State) (v : Byte) : (s.setA v).total = s.total := rfl
@[simp] theorem setA_halted (s : State) (v : Byte) : (s.setA v).halted = s.halted := rfl
@[simp] theorem setA_read (s : State) (v : Byte) (a : Address) : (s.setA v).read a = s.read a := rfl
@[simp] theorem setA_flag (s : State) (v : Byte) (f : Flag) : (s.setA v).flag f = s.flag f := rfl

@[simp] theorem setX_A (s : State) (v : Byte) : (s.setX v).A = s.A := rfl
@[simp] theorem setX_X (s : State) (v : Byte) : (s.setX v).X = v := rfl
@[simp] theorem setX_Y (s : State) (v : Byte) : (s.setX v).Y = s.Y := rfl
@[simp] theorem setX_SP (s : State) (v : Byte) : (s.setX v).SP = s.SP := rfl
@[simp] theorem setX_PC (s : State) (v : Byte) : (s.setX v).PC = s.PC := rfl
@[simp] theorem setX_P (s : State) (v : Byte) : (s.setX v).P = s.P := rfl
@[simp] theorem setX_mem (s : State) (v : Byte) : (s.setX v).mem = s.mem := rfl
@[simp] theorem setX_remaining (s : State) (v : Byte) : (s.setX v).remaining = s.remaining := rfl
@[simp] theorem setX_total (s : State) (v : Byte) : (s.setX v).total = s.total := rfl
@[simp] theorem setX_halted (s : State) (v : Byte) : (s.setX v).halted = s.halted := rfl
@[simp] theorem setX_read (s : State) (v : Byte) (a : Address) : (s.setX v).read a = s.read a := rfl
@[simp] theorem setX_flag (s : State) (v : Byte) (f : Flag) : (s.setX v).flag f = s.flag f := rfl

@[simp] theorem setY_A (s : State) (v : Byte) : (s.setY v).A = s.A := rfl
@[simp] theorem setY_X (s : State) (v : Byte) : (s.setY v).X = s.X := rfl
@[simp] theorem setY_Y (s : State) (v : Byte) : (s.setY v).Y = v := rfl
@[simp] theorem setY_SP (s : State) (v : Byte) : (s.setY v).SP = s.SP := rfl
@[simp] theorem setY_PC (s : State) (v : Byte) : (s.setY v).PC = s.PC := rfl
@[simp] theorem setY_P (s : State) (v : Byte) : (s.setY v).P = s.P := rfl
@[simp] theorem setY_mem (s : State) (v : Byte) : (s.setY v).mem = s.mem := rfl
@[simp] theorem setY_remaining (s : State) (v : Byte) : (s.setY v).remaining = s.remaining := rfl
@[simp] theorem setY_total (s : State) (v : Byte) : (s.setY v).total = s.total := rfl
@[simp] theorem setY_halted (s : State) (v : Byte) : (s.setY v).halted = s.halted := rfl
@[simp] theorem setY_read (s : State) (v : Byte) (a : Address) : (s.setY v).read a = s.read a := rfl
@[simp] theorem setY_flag (s : State) (v : Byte) (f : Flag) : (s.setY v).flag f = s.flag f := rfl

@[simp] theorem setSP_A (s : State) (v : Byte) : (s.setSP v).A = s.A := rfl
@[simp] theorem setSP_X (s : State) (v : Byte) : (s.setSP v).X = s.X := rfl
@[simp] theorem setSP_Y (s : State) (v : Byte) : (s.setSP v).Y = s.Y := rfl
@[simp] theorem setSP_SP (s : State) (v : Byte) : (s.setSP v).SP = v := rfl
@[simp] theorem setSP_PC (s : State) (v : Byte) : (s.setSP v).PC = s.PC := rfl
@[simp] theorem setSP_P (s : State) (v : Byte) : (s.setSP v).P = s.P := rfl
@[simp] theorem setSP_mem (s : State) (v : Byte) : (s.setSP v).mem = s.mem := rfl
@[simp] theorem setSP_remaining (s : State) (v : Byte) : (s.setSP v).remaining = s.remaining := rfl
@[simp] theorem setSP_total (s : State) (v : Byte) : (s.setSP v).total = s.total := rfl
@[simp] theorem setSP_halted (s : State) (v : Byte) : (s.setSP v).halted = s.halted := rfl
@[simp] theorem setSP_read (s : State) (v : Byte) (a : Address) : (s.setSP v).read a = s.read a := rfl
@[simp] theorem setSP_flag (s : State) (v : Byte) (f : Flag) : (s.setSP v).flag f = s.flag f := rfl

@[simp] theorem setPC_A (s : State) (v : Address) : (s.setPC v).A = s.A := rfl
@[simp] theorem setPC_X (s : State) (v : Address) : (s.setPC v).X = s.X := rfl
@[simp] theorem setPC_Y (s : State) (v : Address) : (s.setPC v).Y = s.Y := rfl
@[simp] theorem setPC_SP (s : State) (v : Address) : (s.setPC v).SP = s.SP := rfl
@[simp] theorem setPC_PC (s : State) (v : Address) : (s.setPC v).PC = v := rfl
@[simp] theorem setPC_P (s : State) (v : Address) : (s.setPC v).P = s.P := rfl
@[simp] theorem setPC_mem (s : State) (v : Address) : (s.setPC v).mem = s.mem := rfl
@[simp] theorem setPC_remaining (s : State) (v : Address) : (s.setPC v).remaining = s.remaining := rfl
@[simp] theorem setPC_total (s : State) (v : Address) : (s.setPC v).total = s.total := rfl
@[simp] theorem setPC_halted (s : State) (v : Address) : (s.setPC v).halted = s.halted := rfl
@[simp] theorem setPC_read (s : State) (v : Address) (a : Address) : (s.setPC v).read a = s.read a := rfl
@[simp] theorem setPC_flag (s : State) (v : Address) (f : Flag) : (s.setPC v).flag f = s.flag f := rfl

@[simp] theorem setP_A (s : State) (v : Byte) : (s.setP v).A = s.A := rfl
@[simp] theorem setP_X (s : State) (v : Byte) : (s.setP v).X = s.X := rfl
@[simp] theorem setP_Y (s : State) (v : Byte) : (s.setP v).Y = s.Y := rfl
@[simp] theorem setP_SP (s : State) (v : Byte) : (s.setP v).SP = s.SP := rfl
@[simp] theorem setP_PC (s : State) (v : Byte) : (s.setP v).PC = s.PC := rfl
@[simp] theorem setP_P (s : State) (v : Byte) : (s.setP v).P = v := rfl
@[simp] theorem setP_mem (s : State) (v : Byte) : (s.setP v).mem = s.mem := rfl
@[simp] theorem setP_remaining (s : State) (v : Byte) : (s.setP v).remaining = s.remaining := rfl
@[simp] theorem setP_total (s : State) (v : Byte) : (s.setP v).total = s.total := rfl
@[simp] theorem setP_halted (s : State) (v : Byte) : (s.setP v).halted = s.halted := rfl
@[simp] theorem setP_read (s : State) (v : Byte) (a : Address) : (s.setP v).read a = s.read a := rfl
@[simp] theorem setP_flag (s : State) (v : Byte) (f : Flag) : (s.setP v).flag f = flagOf f v := rfl

@[simp] theorem setRemaining_A (s : State) (v : Nat) : (s.setRemaining v).A = s.A := rfl
@[simp] theorem setRemaining_X (s : State) (v : Nat) : (s.setRemaining v).X = s.X := rfl
@[simp] theorem setRemaining_Y (s : State) (v : Nat) : (s.setRemaining v).Y = s.Y := rfl
@[simp] theorem setRemaining_SP (s : State) (v : Nat) : (s.setRemaining v).SP = s.SP := rfl
@[simp] theorem setRemaining_PC (s : State) (v : Nat) : (s.setRemaining v).PC = s.PC := rfl
@[simp] theorem setRemaining_P (s : State) (v : Nat) : (s.setRemaining v).P = s.P := rfl
@[simp] theorem setRemaining_mem (s : State) (v : Nat) : (s.setRemaining v).mem = s.mem := rfl
@[simp] theorem setRemaining_remaining (s : State) (v : Nat) : (s.setRemaining v).remaining = v := rfl
@[simp] theorem setRemaining_total (s : State) (v : Nat) : (s.setRemaining v).total = s.total := rfl
@[simp] theorem setRemaining_halted (s : State) (v : Nat) : (s.setRemaining v).halted = s.halted := rfl
@[simp] theorem setRemaining_read (s : State) (v : Nat) (a : Address) : (s.setRemaining v).read a = s.read a := rfl
@[simp] theorem setRemaining_flag (s : State) (v : Nat) (f : Flag) : (s.setRemaining v).flag f = s.flag f := rfl

@[simp] theorem setTotal_A (s : State) (v : Nat) : (s.setTotal v).A = s.A := rfl
@[simp] theorem setTotal_X (s : State) (v : Nat) : (s.setTotal v).X = s.X := rfl
@[simp] theorem setTotal_Y (s : State) (v : Nat) : (s.setTotal v).Y = s.Y := rfl
@[simp] theorem setTotal_SP (s : State) (v : Nat) : (s.setTotal v).SP = s.SP := rfl
@[simp] theorem setTotal_PC (s : State) (v : Nat) : (s.setTotal v).PC = s.PC := rfl
@[simp] theorem setTotal_P (s : State) (v : Nat) : (s.setTotal v).P = s.P := rfl
@[simp] theorem setTotal_mem (s : State) (v : Nat) : (s.setTotal v).mem = s.mem := rfl
@[simp] theorem setTotal_remaining (s : State) (v : Nat) : (s.setTotal v).remaining = s.remaining := rfl
@[simp] theorem setTotal_total (s : State) (v : Nat) : (s.setTotal v).total = v := rfl
@[simp] theorem setTotal_halted (s : State) (v : Nat) : (s.setTotal v).halted = s.halted := rfl
@[simp] theorem setTotal_read (s : State) (v : Nat) (a : Address) : (s.setTotal v).read a = s.read a := rfl
@[simp] theorem setTotal_flag (s : State) (v : Nat) (f : Flag) : (s.setTotal v).flag f = s.flag f := rfl

@[simp] theorem setHalted_A (s : State) (v : Option DecodeError) : (s.setHalted v).A = s.A := rfl
@[simp] theorem setHalted_X (s : State) (v : Option DecodeError) : (s.setHalted v).X = s.X := rfl
@[simp] theorem setHalted_Y (s : State) (v : Option DecodeError) : (s.setHalted v).Y = s.Y := rfl
@[simp] theorem setHalted_SP (s : State) (v : Option DecodeError) : (s.setHalted v).SP = s.SP := rfl
@[simp] theorem setHalted_PC (s : State) (v : Option DecodeError) : (s.setHalted v).PC = s.PC := rfl
@[simp] theorem setHalted_P (s : State) (v : Option DecodeError) : (s.setHalted v).P = s.P := rfl
@[simp] theorem setHalted_mem (s : State) (v : Option DecodeError) : (s.setHalted v).mem = s.mem := rfl
@[simp] theorem setHalted_remaining (s : State) (v : Option DecodeError) : (s.setHalted v).remaining = s.remaining := rfl
@[simp] theorem setHalted_total (s : State) (v : Option DecodeError) : (s.setHalted v).total = s.total := rfl
@[simp] theorem setHalted_halted (s : State) (v : Option DecodeError) : (s.setHalted v).halted = v := rfl
@[simp] theorem setHalted_read (s : State) (v : Option DecodeError) (a : Address) : (s.setHalted v).read a = s.read a := rfl
@[simp] theorem setHalted_flag (s : State) (v : Option DecodeError) (f : Flag) : (s.setHalted v).flag f = s.flag f := rfl

@[simp] theorem write_A (s : State) (a : Address) (v : Byte) : (s.write a v).A = s.A := rfl
@[simp] theorem write_X (s : State) (a : Address) (v : Byte) : (s.write a v).X = s.X := rfl
@[simp] theorem write_Y (s : State) (a : Address) (v : Byte) : (s.write a v).Y = s.Y := rfl
@[simp] theorem write_SP (s : State) (a : Address) (v : Byte) : (s.write a v).SP = s.SP := rfl
@[simp] theorem write_PC (s : State) (a : Address) (v : Byte) : (s.write a v).PC = s.PC := rfl
@[simp] theorem write_P (s : State) (a : Address) (v : Byte) : (s.write a v).P = s.P := rfl
@[simp] theorem write_remaining (s : State) (a : Address) (v : Byte) : (s.write a v).remaining = s.remaining := rfl
@[simp] theorem write_total (s : State) (a : Address) (v : Byte) : (s.write a v).total = s.total := rfl
@[simp] theorem write_halted (s : State) (a : Address) (v : Byte) : (s.write a v).halted = s.halted := rfl
@[simp] theorem write_mem (s : State) (a : Address) (v : Byte) : (s.write a v).mem = s.mem.write a.toNat v := rfl
@[simp] theorem write_flag (s : State) (a : Address) (v : Byte) (f : Flag) : (s.write a v).flag f = s.flag f := rfl

@[simp] theorem setFlag_A (s : State) (f : Flag) (v : Bool) : (s.setFlag f v).A = s.A := rfl
@[simp] theorem setFlag_X (s : State) (f : Flag) (v : Bool) : (s.setFlag f v).X = s.X := rfl
@[simp] theorem setFlag_Y (s : State) (f : Flag) (v : Bool) : (s.setFlag f v).Y = s.Y := rfl
@[simp] theorem setFlag_SP (s : State) (f : Flag) (v : Bool) : (s.setFlag f v).SP = s.SP := rfl
@[simp] theorem setFlag_PC (s : State) (f : Flag) (v : Bool) : (s.setFlag f v).PC = s.PC := rfl
@[simp] theorem setFlag_mem (s : State) (f : Flag) (v : Bool) : (s.setFlag f v).mem = s.mem := rfl
@[simp] theorem setFlag_remaining (s : State) (f : Flag) (v : Bool) : (s.setFlag f v).remaining = s.remaining := rfl
@[simp] theorem setFlag_total (s : State) (f : Flag) (v : Bool) : (s.setFlag f v).total = s.total := rfl
@[simp] theorem setFlag_halted (s : State) (f : Flag) (v : Bool) : (s.setFlag f v).halted = s.halted := rfl
@[simp] theorem setFlag_P (s : State) (f : Flag) (v : Bool) : (s.setFlag f v).P = putFlag f v s.P := rfl
@[simp] theorem setFlag_read (s : State) (f : Flag) (v : Bool) (a : Address) : (s.setFlag f v).read a = s.read a := rfl

@[simp] theorem setZN_A (s : State) (v : Byte) : (s.setZN v).A = s.A := rfl
@[simp] theorem setZN_X (s : State) (v : Byte) : (s.setZN v).X = s.X := rfl
@[simp] theorem setZN_Y (s : State) (v : Byte) : (s.setZN v).Y = s.Y := rfl
@[simp] theorem setZN_SP (s : State) (v : Byte) : (s.setZN v).SP = s.SP := rfl
@[simp] theorem setZN_PC (s : State) (v : Byte) : (s.setZN v).PC = s.PC := rfl
@[simp] theorem setZN_mem (s : State) (v : Byte) : (s.setZN v).mem = s.mem := rfl
@[simp] theorem setZN_remaining (s : State) (v : Byte) : (s.setZN v).remaining = s.remaining := rfl
@[simp] theorem setZN_total (s : State) (v : Byte) : (s.setZN v).total = s.total := rfl
@[simp] theorem setZN_halted (s : State) (v : Byte) : (s.setZN v).halted = s.halted := rfl
@[simp] theorem setZN_read (s : State) (v : Byte) (a : Address) : (s.setZN v).read a = s.read a := rfl

@[simp] theorem loadA_A (s : State) (v : Byte) : (s.loadA v).A = v := rfl
@[simp] theorem loadA_X (s : State) (v : Byte) : (s.loadA v).X = s.X := rfl
@[simp] theorem loadA_Y (s : State) (v : Byte) : (s.loadA v).Y = s.Y := rfl
@[simp] theorem loadA_SP (s : State) (v : Byte) : (s.loadA v).SP = s.SP := rfl
@[simp] theorem loadA_PC (s : State) (v : Byte) : (s.loadA v).PC = s.PC := rfl
@[simp] theorem loadA_mem (s : State) (v : Byte) : (s.loadA v).mem = s.mem := rfl
@[simp] theorem loadA_remaining (s : State) (v : Byte) : (s.loadA v).remaining = s.remaining := rfl
@[simp] theorem loadA_total (s : State) (v : Byte) : (s.loadA v).total = s.total := rfl
@[simp] theorem loadA_halted (s : State) (v : Byte) : (s.loadA v).halted = s.halted := rfl
@[simp] theorem loadA_read (s : State) (v : Byte) (a : Address) : (s.loadA v).read a = s.read a := rfl
@[simp] theorem loadA_flag (s : State) (v : Byte) (f : Flag) : (s.loadA v).flag f = (s.setZN v).flag f := rfl

@[simp] theorem loadX_A (s : State) (v : Byte) : (s.loadX v).A = s.A := rfl
@[simp] theorem loadX_X (s : State) (v : Byte) : (s.loadX v).X = v := rfl
@[simp] theorem loadX_Y (s : State) (v : Byte) : (s.loadX v).Y = s.Y := rfl
@[simp] theorem loadX_SP (s : State) (v : Byte) : (s.loadX v).SP = s.SP := rfl
@[simp] theorem loadX_PC (s : State) (v : Byte) : (s.loadX v).PC = s.PC := rfl
@[simp] theorem loadX_mem (s : State) (v : Byte) : (s.loadX v).mem = s.mem := rfl
@[simp] theorem loadX_remaining (s : State) (v : Byte) : (s.loadX v).remaining = s.remaining := rfl
@[simp] theorem loadX_total (s : State) (v : Byte) : (s.loadX v).total = s.total := rfl
@[simp] theorem loadX_halted (s : State) (v : Byte) : (s.loadX v).halted = s.halted := rfl
@[simp] theorem loadX_read (s : State) (v : Byte) (a : Address) : (s.loadX v).read a = s.read a := rfl
@[simp] theorem loadX_flag (s : State) (v : Byte) (f : Flag) : (s.loadX v).flag f = (s.setZN v).flag f := rfl

@[simp] theorem loadY_A (s : State) (v : Byte) : (s.loadY v).A = s.A := rfl
@[simp] theorem loadY_X (s : State) (v : Byte) : (s.loadY v).X = s.X := rfl
@[simp] theorem loadY_Y (s : State) (v : Byte) : (s.loadY v).Y = v := rfl
@[simp] theorem loadY_SP (s : State) (v : Byte) : (s.loadY v).SP = s.SP := rfl
@[simp] theorem loadY_PC (s : State) (v : Byte) : (s.loadY v).PC = s.PC := rfl
@[simp] theorem loadY_mem (s : State) (v : Byte) : (s.loadY v).mem = s.mem := rfl
@[simp] theorem loadY_remaining (s : State) (v : Byte) : (s.loadY v).remaining = s.remaining := rfl
@[simp] theorem loadY_total (s : State) (v : Byte) : (s.loadY v).total = s.total := rfl
@[simp] theorem loadY_halted (s : State) (v : Byte) : (s.loadY v).halted = s.halted := rfl
@[simp] theorem loadY_read (s : State) (v : Byte) (a : Address) : (s.loadY v).read a = s.read a := rfl
@[simp] theorem loadY_flag (s : State) (v : Byte) (f : Flag) : (s.loadY v).flag f = (s.setZN v).flag f := rfl

@[simp] theorem push_A (s : State) (v : Byte) : (s.push v).A = s.A := by simp [State.push]
@[simp] theorem push_X (s : State) (v : Byte) : (s.push v).X = s.X := by simp [State.push]
@[simp] theorem push_Y (s : State) (v : Byte) : (s.push v).Y = s.Y := by simp [State.push]
@[simp] theorem push_SP (s : State) (v : Byte) : (s.push v).SP = s.SP - 1 := by simp [State.push]
@[simp] theorem push_PC (s : State) (v : Byte) : (s.push v).PC = s.PC := by simp [State.push]
@[simp] theorem push_P (s : State) (v : Byte) : (s.push v).P = s.P := by simp [State.push]
@[simp] theorem push_remaining (s : State) (v : Byte) : (s.push v).remaining = s.remaining := by simp [State.push]
@[simp] theorem push_total (s : State) (v : Byte) : (s.push v).total = s.total := by simp [State.push]
@[simp] theorem push_halted (s : State) (v : Byte) : (s.push v).halted = s.halted := by simp [State.push]
@[simp] theorem push_flag (s : State) (v : Byte) (f : Flag) : (s.push v).flag f = s.flag f := by simp [State.push]

@[simp] theorem pop_A (s : State) : (s.pop).A = s.A := rfl
@[simp] theorem pop_X (s : State) : (s.pop).X = s.X := rfl
@[simp] theorem pop_Y (s : State) : (s.pop).Y = s.Y := rfl
@[simp] theorem pop_SP (s : State) : (s.pop).SP = s.SP + 1 := rfl
@[simp] theorem pop_PC (s : State) : (s.pop).PC = s.PC := rfl
@[simp] theorem pop_P (s : State) : (s.pop).P = s.P := rfl
@[simp] theorem pop_mem (s : State) : (s.pop).mem = s.mem := rfl
@[simp] theorem pop_remaining (s : State) : (s.pop).remaining = s.remaining := rfl
@[simp] theorem pop_total (s : State) : (s.pop).total = s.total := rfl
@[simp] theorem pop_halted (s : State) : (s.pop).halted = s.halted := rfl
@[simp] theorem pop_read (s : State) (a : Address) : (s.pop).read a = s.read a := rfl
@[simp] theorem pop_flag (s : State) (f : Flag) : (s.pop).flag f = s.flag f := rfl

@[simp] theorem pushWord_A (s : State) (w : Address) : (s.pushWord w).A = s.A := by simp [State.pushWord]
@[simp] theorem pushWord_X (s : State) (w : Address) : (s.pushWord w).X = s.X := by simp [State.pushWord]
@[simp] theorem pushWord_Y (s : State) (w : Address) : (s.pushWord w).Y = s.Y := by simp [State.pushWord]
@[simp] theorem pushWord_SP (s : State) (w : Address) : (s.pushWord w).SP = s.SP - 1 - 1 := by simp [State.pushWord]
@[simp] theorem pushWord_PC (s : State) (w : Address) : (s.pushWord w).PC = s.PC := by simp [State.pushWord]
@[simp] theorem pushWord_P (s : State) (w : Address) : (s.pushWord w).P = s.P := by simp [State.pushWord]
@[simp] theorem pushWord_remaining (s : State) (w : Address) : (s.pushWord w).remaining = s.remaining := by simp [State.pushWord]
@[simp] theorem pushWord_total (s : State) (w : Address) : (s.pushWord w).total = s.total := by simp [State.pushWord]
@[simp] theorem pushWord_halted (s : State) (w : Address) : (s.pushWord w).halted = s.halted := by simp [State.pushWord]
@[simp] theorem pushWord_flag (s : State) (w : Address) (f : Flag) : (s.pushWord w).flag f = s.flag f := by simp [State.pushWord]

@[simp] theorem advance_A (s : State) (n : Nat) : (s.advance n).A = s.A := rfl
@[simp] theorem advance_X (s : State) (n : Nat) : (s.advance n).X = s.X := rfl
@[simp] theorem advance_Y (s : State) (n : Nat) : (s.advance n).Y = s.Y := rfl
@[simp] theorem advance_SP (s : State) (n : Nat) : (s.advance n).SP = s.SP := rfl
@[simp] theorem advance_PC (s : State) (n : Nat) : (s.advance n).PC = s.PC + BitVec.ofNat 16 n := rfl
@[simp] theorem advance_P (s : State) (n : Nat) : (s.advance n).P = s.P := rfl
@[simp] theorem advance_mem (s : State) (n : Nat) : (s.advance n).mem = s.mem := rfl
@[simp] theorem advance_remaining (s : State) (n : Nat) : (s.advance n).remaining = s.remaining := rfl
@[simp] theorem advance_total (s : State) (n : Nat) : (s.advance n).total = s.total := rfl
@[simp] theorem advance_halted (s : State) (n : Nat) : (s.advance n).halted = s.halted := rfl
@[simp] theorem advance_read (s : State) (n : Nat) (a : Address) : (s.advance n).read a = s.read a := rfl
@[simp] theorem advance_flag (s : State) (n : Nat) (f : Flag) : (s.advance n).flag f = s.flag f := rfl

@[simp] theorem tick_A (s : State) : (s.tick).A = s.A := rfl
@[simp] theorem tick_X (s : State) : (s.tick).X = s.X := rfl
@[simp] theorem tick_Y (s : State) : (s.tick).Y = s.Y := rfl
@[simp] theorem tick_SP (s : State) : (s.tick).SP = s.SP := rfl
@[simp] theorem tick_PC (s : State) : (s.tick).PC = s.PC := rfl
@[simp] theorem tick_P (s : State) : (s.tick).P = s.P := rfl
@[simp] theorem tick_mem (s : State) : (s.tick).mem = s.mem := rfl
@[simp] theorem tick_remaining (s : State) : (s.tick).remaining = s.remaining - 1 := rfl
@[simp] theorem tick_total (s : State) : (s.tick).total = s.total + 1 := rfl
@[simp] theorem tick_halted (s : State) : (s.tick).halted = s.halted := rfl
@[simp] theorem tick_read (s : State) (a : Address) : (s.tick).read a = s.read a := rfl
@[simp] theorem tick_flag (s : State) (f : Flag) : (s.tick).flag f = s.flag f := rfl

@[simp] theorem idle_A (s : State) : (s.idle).A = s.A := rfl
@[simp] theorem idle_X (s : State) : (s.idle).X = s.X := rfl
@[simp] theorem idle_Y (s : State) : (s.idle).Y = s.Y := rfl
@[simp] theorem idle_SP (s : State) : (s.idle).SP = s.SP := rfl
@[simp] theorem idle_PC (s : State) : (s.idle).PC = s.PC := rfl
@[simp] theorem idle_P (s : State) : (s.idle).P = s.P := rfl
@[simp] theorem idle_mem (s : State) : (s.idle).mem = s.mem := rfl
@[simp] theorem idle_remaining (s : State) : (s.idle).remaining = 0 := rfl
@[simp] theorem idle_total (s : State) : (s.idle).total = s.total := rfl
@[simp] theorem idle_halted (s : State) : (s.idle).halted = none := rfl
@[simp] theorem idle_read (s : State) (a : Address) : (s.idle).read a = s.read a := rfl
@[simp] theorem idle_flag (s : State) (f : Flag) : (s.idle).flag f = s.flag f := rfl

@[simp] theorem raiseDecodeError_A (s : State) (b : Byte) (p : Address) : (s.raiseDecodeError b p).A = s.A := rfl
@[simp] theorem raiseDecodeError_X (s : State) (b : Byte) (p : Address) : (s.raiseDecodeError b p).X = s.X := rfl
@[simp] theorem raiseDecodeError_Y (s : State) (b : Byte) (p : Address) : (s.raiseDecodeError b p).Y = s.Y := rfl
@[simp] theorem raiseDecodeError_SP (s : State) (b : Byte) (p : Address) : (s.raiseDecodeError b p).SP = s.SP := rfl
@[simp] theorem raiseDecodeError_PC (s : State) (b : Byte) (p : Address) : (s.raiseDecodeError b p).PC = s.PC := rfl
@[simp] theorem raiseDecodeError_P (s : State) (b : Byte) (p : Address) : (s.raiseDecodeError b p).P = s.P := rfl
@[simp] theorem raiseDecodeError_mem (s : State) (b : Byte) (p : Address) : (s.raiseDecodeError b p).mem = s.mem := rfl
@[simp] theorem raiseDecodeError_remaining (s : State) (b : Byte) (p : Address) : (s.raiseDecodeError b p).remaining = s.remaining := rfl
@[simp] theorem raiseDecodeError_total (s : State) (b : Byte) (p : Address) : (s.raiseDecodeError b p).total = s.total := rfl
@[simp] theorem raiseDecodeError_halted (s : State) (b : Byte) (p : Address) : (s.raiseDecodeError b p).halted = some ⟨b, p⟩ := rfl
@[simp] theorem raiseDecodeError_read (s : State) (b : Byte) (p : Address) (a : Address) : (s.raiseDecodeError b p).read a = s.read a := rfl
@[simp] theorem raiseDecodeError_flag (s : State) (b : Byte) (p : Address) (f : Flag) : (s.raiseDecodeError b p).flag f = s.flag f := rfl

@[simp] theorem takeBreak_A (s : State) : (s.takeBreak).A = s.A := by simp [State.takeBreak]
@[simp] theorem takeBreak_X (s : State) : (s.takeBreak).X = s.X := by simp [State.takeBreak]
@[simp] theorem takeBreak_Y (s : State) : (s.takeBreak).Y = s.Y := by simp [State.takeBreak]
@[simp] theorem takeBreak_SP (s : State) : (s.takeBreak).SP = s.SP - 1 - 1 - 1 := by simp [State.takeBreak]
@[simp] theorem takeBreak_P (s : State) : (s.takeBreak).P = putFlag .I true s.P := by simp [State.takeBreak]
@[simp] theorem takeBreak_remaining (s : State) : (s.takeBreak).remaining = s.remaining := by simp [State.takeBreak]
@[simp] theorem takeBreak_total (s : State) : (s.takeBreak).total = s.total := by simp [State.takeBreak]
@[simp] theorem takeBreak_halted (s : State) : (s.takeBreak).halted = s.halted := by simp [State.takeBreak]

@[simp] theorem returnFromBreak_A (s : State) : (s.returnFromBreak).A = s.A := by simp [State.returnFromBreak, State.top]
@[simp] theorem returnFromBreak_X (s : State) : (s.returnFromBreak).X = s.X := by simp [State.returnFromBreak, State.top]
@[simp] theorem returnFromBreak_Y (s : State) : (s.returnFromBreak).Y = s.Y := by simp [State.returnFromBreak, State.top]
@[simp] theorem returnFromBreak_SP (s : State) : (s.returnFromBreak).SP = s.SP + 1 + 1 + 1 := by simp [State.returnFromBreak, State.top]
@[simp] theorem returnFromBreak_PC (s : State) : (s.returnFromBreak).PC = wordOf (s.read (stackAddr (s.SP + 1 + 1 + 1))) (s.read (stackAddr (s.SP + 1 + 1))) := by simp [State.returnFromBreak, State.top]
@[simp] theorem returnFromBreak_P (s : State) : (s.returnFromBreak).P = pulledStatus (s.read (stackAddr (s.SP + 1))) := by simp [State.returnFromBreak, State.top]
@[simp] theorem returnFromBreak_mem (s : State) : (s.returnFromBreak).mem = s.mem := by simp [State.returnFromBreak, State.top]
@[simp] theorem returnFromBreak_remaining (s : State) : (s.returnFromBreak).remaining = s.remaining := by simp [State.returnFromBreak, State.top]
@[simp] theorem returnFromBreak_total (s : State) : (s.returnFromBreak).total = s.total := by simp [State.returnFromBreak, State.top]
@[simp] theorem returnFromBreak_halted (s : State) : (s.returnFromBreak).halted = s.halted := by simp [State.returnFromBreak, State.top]
@[simp] theorem returnFromBreak_read (s : State) (a : Address) : (s.returnFromBreak).read a = s.read a := by simp [State.returnFromBreak, State.top]

@[simp] theorem hostReset_A (s : State) (c : Bool) : (hostReset c s).A = s.A := rfl
@[simp] theorem hostReset_X (s : State) (c : Bool) : (hostReset c s).X = s.X := rfl
@[simp] theorem hostReset_Y (s : State) (c : Bool) : (hostReset c s).Y = s.Y := rfl
@[simp] theorem hostReset_SP (s : State) (c : Bool) : (hostReset c s).SP = 0xFF#8 := rfl
@[simp] theorem hostReset_PC (s : State) (c : Bool) : (hostReset c s).PC = s.readWord resetVector := rfl
@[simp] theorem hostReset_P (s : State) (c : Bool) : (hostReset c s).P = if c then 0x00#8 else s.P := rfl
@[simp] theorem hostReset_mem (s : State) (c : Bool) : (hostReset c s).mem = s.mem := rfl
@[simp] theorem hostReset_remaining (s : State) (c : Bool) : (hostReset c s).remaining = 0 := rfl
@[simp] theorem hostReset_total (s : State) (c : Bool) : (hostReset c s).total = s.total := rfl
@[simp] theorem hostReset_halted (s : State) (c : Bool) : (hostReset c s).halted = none := rfl
@[simp] theorem hostReset_read (s : State) (c : Bool) (a : Address) : (hostReset c s).read a = s.read a := rfl

@[simp] theorem compare_A (s : State) (r m : Byte) : (s.compare r m).A = s.A := rfl
@[simp] theorem compare_X (s : State) (r m : Byte) : (s.compare r m).X = s.X := rfl
@[simp] theorem compare_Y (s : State) (r m : Byte) : (s.compare r m).Y = s.Y := rfl
@[simp] theorem compare_SP (s : State) (r m : Byte) : (s.compare r m).SP = s.SP := rfl
@[simp] theorem compare_PC (s : State) (r m : Byte) : (s.compare r m).PC = s.PC := rfl
@[simp] theorem compare_mem (s : State) (r m : Byte) : (s.compare r m).mem = s.mem := rfl
@[simp] theorem compare_remaining (s : State) (r m : Byte) : (s.compare r m).remaining = s.remaining := rfl
@[simp] theorem compare_total (s : State) (r m : Byte) : (s.compare r m).total = s.total := rfl
@[simp] theorem compare_halted (s : State) (r m : Byte) : (s.compare r m).halted = s.halted := rfl
@[simp] theorem compare_read (s : State) (r m : Byte) (a : Address) : (s.compare r m).read a = s.read a := rfl

@[simp] theorem writeSum_A (s : State) (r : CoreResult) : (s.writeSum r).A = r.result := rfl
@[simp] theorem writeSum_X (s : State) (r : CoreResult) : (s.writeSum r).X = s.X := rfl
@[simp] theorem writeSum_Y (s : State) (r : CoreResult) : (s.writeSum r).Y = s.Y := rfl
@[simp] theorem writeSum_SP (s : State) (r : CoreResult) : (s.writeSum r).SP = s.SP := rfl
@[simp] theorem writeSum_PC (s : State) (r : CoreResult) : (s.writeSum r).PC = s.PC := rfl
@[simp] theorem writeSum_mem (s : State) (r : CoreResult) : (s.writeSum r).mem = s.mem := rfl
@[simp] theorem writeSum_remaining (s : State) (r : CoreResult) : (s.writeSum r).remaining = s.remaining := rfl
@[simp] theorem writeSum_total (s : State) (r : CoreResult) : (s.writeSum r).total = s.total := rfl
@[simp] theorem writeSum_halted (s : State) (r : CoreResult) : (s.writeSum r).halted = s.halted := rfl
@[simp] theorem writeSum_read (s : State) (r : CoreResult) (a : Address) : (s.writeSum r).read a = s.read a := rfl

@[simp] theorem writeBack_A (s : State) (a : Address) (r : Byte) : (s.writeBack a r).A = s.A := rfl
@[simp] theorem writeBack_X (s : State) (a : Address) (r : Byte) : (s.writeBack a r).X = s.X := rfl
@[simp] theorem writeBack_Y (s : State) (a : Address) (r : Byte) : (s.writeBack a r).Y = s.Y := rfl
@[simp] theorem writeBack_SP (s : State) (a : Address) (r : Byte) : (s.writeBack a r).SP = s.SP := rfl
@[simp] theorem writeBack_PC (s : State) (a : Address) (r : Byte) : (s.writeBack a r).PC = s.PC := rfl
@[simp] theorem writeBack_remaining (s : State) (a : Address) (r : Byte) : (s.writeBack a r).remaining = s.remaining := rfl
@[simp] theorem writeBack_total (s : State) (a : Address) (r : Byte) : (s.writeBack a r).total = s.total := rfl
@[simp] theorem writeBack_halted (s : State) (a : Address) (r : Byte) : (s.writeBack a r).halted = s.halted := rfl

end Sys2Proof.Machine
end

