-- ==== Sys2Proof/Laws/Flags.lean ====
section
/-! SUPPORT. The laws of the status byte: a flag after a flag write, what `SetZN` and the compare core write, and the pushed
and pulled copies of P flag by flag (10 R26 to R31, 42 R204, 45 R301, R303). -/

namespace Sys2Proof.Machine

@[simp] theorem flagOf_putFlag (f g : Flag) (v : Bool) (p : Byte) :
    flagOf g (putFlag f v p) = if g = f then v else flagOf g p := by
  cases f <;> cases g <;> cases v <;> simp [flagOf, putFlag, Flag.bit]

@[simp] theorem setFlag_flag (s : State) (f g : Flag) (v : Bool) :
    (s.setFlag f v).flag g = if g = f then v else s.flag g := flagOf_putFlag f g v s.P

/-- `SetZN(v)` writes Z and N and nothing else (10 R31). -/
@[simp] theorem setZN_flag (s : State) (v : Byte) (g : Flag) :
    (s.setZN v).flag g = if g = .N then v.getLsbD 7 else if g = .Z then decide (v = 0#8) else s.flag g := by
  simp [State.setZN]

/-- The compare core writes C, Z and N and nothing else (42 R204). -/
@[simp] theorem compare_flag (s : State) (r m : Byte) (g : Flag) :
    (s.compare r m).flag g =
      if g = .N then (r - m).getLsbD 7 else if g = .Z then decide (r - m = 0#8) else if g = .C then decide (r.toNat ≥ m.toNat) else s.flag g := by
  simp [State.compare]

@[simp] theorem flagOf_pushedStatus (f : Flag) (p : Byte) :
    flagOf f (pushedStatus p) = if f = .B ∨ f = .U then true else flagOf f p := by
  cases f <;> simp [flagOf, pushedStatus, Flag.bit]

@[simp] theorem flagOf_pulledStatus (f : Flag) (b : Byte) :
    flagOf f (pulledStatus b) = if f = .B ∨ f = .U then false else flagOf f b := by
  cases f <;> simp [flagOf, pulledStatus, Flag.bit]

/-- Eight equal flags make equal status bytes (10 R26). -/
theorem status_ext {p q : Byte} (h : ∀ f : Flag, flagOf f p = flagOf f q) : p = q := by
  apply BitVec.eq_of_getLsbD_eq
  intro i hi
  have hi' : i = 0 ∨ i = 1 ∨ i = 2 ∨ i = 3 ∨ i = 4 ∨ i = 5 ∨ i = 6 ∨ i = 7 := by omega
  rcases hi' with rfl | rfl | rfl | rfl | rfl | rfl | rfl | rfl
  · exact h .C
  · exact h .Z
  · exact h .I
  · exact h .D
  · exact h .B
  · exact h .U
  · exact h .V
  · exact h .N

/-! The shift cores as integers (43 R251 to R254). -/

theorem aslCore_toNat (v : Byte) (c : Bool) : (aslCore v c).result.toNat = 2 * v.toNat % 256 := by
  simp [aslCore, BitVec.toNat_shiftLeft, Nat.shiftLeft_eq]
  omega

theorem lsrCore_toNat (v : Byte) (c : Bool) : (lsrCore v c).result.toNat = v.toNat / 2 := by
  simp [lsrCore, Nat.shiftRight_eq_div_pow]

theorem rolCore_toNat (v : Byte) (c : Bool) : (rolCore v c).result.toNat = 2 * v.toNat % 256 + bitOf c := by
  revert v c
  decide

theorem rorCore_toNat (v : Byte) (c : Bool) : (rorCore v c).result.toNat = v.toNat / 2 + 128 * bitOf c := by
  revert v c
  decide

/-! The arithmetic cores as integers (42 R202 to R204). -/

theorem addCore_toNat (a m : Byte) (c : Bool) : (addCore a m c).result.toNat = (a.toNat + m.toNat + bitOf c) % 256 := by
  simp [addCore]

theorem subCore_toNat (a m : Byte) (c : Bool) :
    ((subCore a m c).result.toNat : Int) = ((a.toNat : Int) - m.toNat - (1 - bitOf c)) % 256 := by
  simp [subCore, BitVec.toNat_ofInt]
  omega

end Sys2Proof.Machine
end

