-- ==== Sys2Proof/Laws/Memory.lean ====
section
/-! SUPPORT. The laws of memory: a read after a write, the canonical form every operation keeps, and that canonical memories
that read alike are equal (20 R60 to R63). -/

namespace Sys2Proof.Machine

theorem read_eq_unlisted_of_not_listed {m : Memory} {a : Nat} (h : ∀ c ∈ m, c.1 ≠ a) :
    m.read a = Config.unlistedByte := by
  induction m with
  | nil => rfl
  | cons c m ih =>
    have hc : c.1 ≠ a := h c (by simp)
    simp only [Memory.read, hc, if_false]
    exact ih fun d hd => h d (by simp [hd])

theorem read_erase (m : Memory) (a b : Nat) :
    (m.erase a).read b = if a = b then Config.unlistedByte else m.read b := by
  induction m with
  | nil => simp [Memory.erase, Memory.read]
  | cons c m ih =>
    simp only [Memory.erase] at ih
    by_cases hc : c.1 = a <;> by_cases hb : c.1 = b <;> by_cases hab : a = b <;>
      simp_all [Memory.erase, Memory.read]

theorem read_insert {m : Memory} {a : Nat} (h : ∀ c ∈ m, c.1 ≠ a) (v : Byte) (b : Nat) :
    (m.insert a v).read b = if a = b then v else m.read b := by
  induction m with
  | nil => simp [Memory.insert, Memory.read]
  | cons c m ih =>
    have hc : c.1 ≠ a := h c (by simp)
    have ih' := ih fun d hd => h d (by simp [hd])
    by_cases hlt : a < c.1
    · simp [Memory.insert, Memory.read, hlt]
    · by_cases hb : c.1 = b
      · have hab : a ≠ b := fun e => hc (hb.trans e.symm)
        simp [Memory.insert, Memory.read, hb ▸ hlt, hb, hab]
      · simp [Memory.insert, Memory.read, hlt, hb, ih']

theorem not_listed_erase (m : Memory) (a : Nat) : ∀ c ∈ m.erase a, c.1 ≠ a := by
  simp [Memory.erase]

/-- A read after a write: the byte written at that address, the old byte everywhere else. -/
theorem read_write_nat (m : Memory) (a b : Nat) (v : Byte) :
    (m.write a v).read b = if a = b then v else m.read b := by
  by_cases hv : v = Config.unlistedByte
  · simp only [Memory.write, hv, if_true, read_erase]
  · simp only [Memory.write, hv, if_false, read_insert (not_listed_erase m a), read_erase]
    split <;> rfl

@[simp] theorem write_read (s : State) (a b : Address) (v : Byte) :
    (s.write a v).read b = if a = b then v else s.read b := by
  simp only [State.read, State.write, read_write_nat, BitVec.toNat_inj]

theorem mem_insert {m : Memory} {a : Nat} {v : Byte} {c : Host.Cell} :
    c ∈ m.insert a v ↔ c = (a, v) ∨ c ∈ m := by
  induction m with
  | nil => simp [Memory.insert]
  | cons d m ih =>
    by_cases h : a < d.1
    · simp [Memory.insert, h]
    · simp only [Memory.insert, h, if_false, List.mem_cons, ih]
      tauto

theorem wf_erase {m : Memory} (h : m.wf) (a : Nat) : (m.erase a).wf :=
  ⟨h.1.filter _, fun c hc => h.2 c (List.mem_of_mem_filter hc)⟩

theorem wf_insert {m : Memory} {a : Nat} {v : Byte} (h : m.wf) (hn : ∀ c ∈ m, c.1 ≠ a) (ha : a < 65536)
    (hv : v ≠ Config.unlistedByte) : (m.insert a v).wf := by
  refine ⟨?_, fun c hc => ?_⟩
  · induction m with
    | nil => simp [Memory.insert]
    | cons d m ih =>
      have hp := List.pairwise_cons.mp h.1
      have hd : d.1 ≠ a := hn d (by simp)
      by_cases hlt : a < d.1
      · simp only [Memory.insert, hlt, if_true]
        refine List.pairwise_cons.mpr ⟨fun c hc => ?_, h.1⟩
        rcases List.mem_cons.mp hc with rfl | hc
        · exact hlt
        · exact hlt.trans (hp.1 c hc)
      · simp only [Memory.insert, hlt, if_false]
        refine List.pairwise_cons.mpr ⟨fun c hc => ?_, ?_⟩
        · rcases mem_insert.mp hc with rfl | hc
          · change d.1 < a
            omega
          · exact hp.1 c hc
        · exact ih ⟨hp.2, fun c hc => h.2 c (by simp [hc])⟩ fun c hc => hn c (by simp [hc])
  · rcases mem_insert.mp hc with rfl | hc
    · exact ⟨ha, hv⟩
    · exact h.2 c hc

/-- A write keeps the canonical form. -/
theorem wf_write {m : Memory} (h : m.wf) {a : Nat} (ha : a < 65536) (v : Byte) : (m.write a v).wf := by
  by_cases hv : v = Config.unlistedByte
  · simpa only [Memory.write, hv, if_true] using wf_erase h a
  · simpa only [Memory.write, hv, if_false] using wf_insert (wf_erase h a) (not_listed_erase m a) ha hv

theorem write_keeps_wf {s : State} (h : s.mem.wf) (a : Address) (v : Byte) : (s.write a v).mem.wf :=
  wf_write h a.isLt v

theorem push_keeps_wf {s : State} (h : s.mem.wf) (v : Byte) : (s.push v).mem.wf := write_keeps_wf h _ v

theorem pushWord_keeps_wf {s : State} (h : s.mem.wf) (w : Address) : (s.pushWord w).mem.wf :=
  push_keeps_wf (push_keeps_wf h _) _

theorem takeBreak_mem (s : State) : s.takeBreak.mem = ((s.pushWord (s.PC + 1)).push (pushedStatus s.P)).mem := by
  simp [State.takeBreak]

theorem takeBreak_keeps_wf {s : State} (h : s.mem.wf) : s.takeBreak.mem.wf := by
  rw [takeBreak_mem]
  exact push_keeps_wf (pushWord_keeps_wf h _) _

theorem writeBytes_keeps_wf {s : State} (h : s.mem.wf) (vs : List Byte) (a : Address) : (s.writeBytes vs a).mem.wf := by
  induction vs generalizing s a with
  | nil => exact h
  | cons v vs ih => exact ih (write_keeps_wf h a v) _

theorem reset_memory_wf : State.reset.mem.wf := by decide

end Sys2Proof.Machine
end

