-- ==== Sys2Proof/Laws/Ops.lean ====
section
/-! SUPPORT. One lemma for each shared operation that says what it can do, for a proof to cite instead of unfolding it: the
stack, the trap, the branch, the shift, the runner of an instruction and the step. -/

namespace Sys2Proof.Machine

/-! The stack. -/

theorem stackAddr_toNat (sp : Byte) : (stackAddr sp).toNat = 256 + sp.toNat := by
  have h := sp.isLt
  simp [stackAddr, BitVec.toNat_add]
  omega

@[simp] theorem stackAddr_inj {a b : Byte} : stackAddr a = stackAddr b ↔ a = b := by
  refine ⟨fun h => ?_, fun h => h ▸ rfl⟩
  have := congrArg BitVec.toNat h
  simp only [stackAddr_toNat] at this
  exact BitVec.eq_of_toNat_eq (by omega)

/-- `Push(v)` writes the one byte at `0x0100 + SP` (20 R71). -/
@[simp] theorem push_read (s : State) (v : Byte) (a : Address) :
    (s.push v).read a = if stackAddr s.SP = a then v else s.read a := by
  simp [State.push]

/-- A pushed word lies with its high byte above its low byte (44 R280). -/
theorem pushWord_read (s : State) (w : Address) (a : Address) :
    (s.pushWord w).read a =
      if stackAddr (s.SP - 1) = a then lowByte w else if stackAddr s.SP = a then highByte w else s.read a := by
  simp [State.pushWord]

theorem top_eq (s : State) : s.top = s.read (stackAddr (s.SP + 1)) := by
  simp [State.top]

/-- Pull after Push gives the byte pushed and restores SP (20 R71, R72). -/
theorem top_push (s : State) (v : Byte) : (s.push v).top = v ∧ (s.push v).pop.SP = s.SP := by
  simp [top_eq]

/-! The byte-order helpers as integers (20 R64). -/

theorem wordOf_toNat (h l : Byte) : (wordOf h l).toNat = h.toNat * 256 + l.toNat := by
  have hl : l.toNat < 2 ^ 8 := l.isLt
  change (BitVec.append h l).toNat = _
  have := BitVec.toNat_append h l
  rw [show (BitVec.append h l) = h ++ l from rfl, this, ← Nat.shiftLeft_add_eq_or_of_lt hl, Nat.shiftLeft_eq]

theorem lowByte_toNat (w : Address) : (lowByte w).toNat = w.toNat % 256 := by
  simp [lowByte]

theorem highByte_toNat (w : Address) : (highByte w).toNat = w.toNat / 256 := by
  have := w.isLt
  simp [highByte, Nat.shiftRight_eq_div_pow]
  omega

@[simp] theorem wordOf_high_low (w : Address) : wordOf (highByte w) (lowByte w) = w := by
  apply BitVec.eq_of_toNat_eq
  rw [wordOf_toNat, highByte_toNat, lowByte_toNat]
  omega

@[simp] theorem lowByte_wordOf (h l : Byte) : lowByte (wordOf h l) = l := by
  have := l.isLt
  apply BitVec.eq_of_toNat_eq
  rw [lowByte_toNat, wordOf_toNat]
  omega

@[simp] theorem highByte_wordOf (h l : Byte) : highByte (wordOf h l) = h := by
  have := l.isLt
  apply BitVec.eq_of_toNat_eq
  rw [highByte_toNat, wordOf_toNat]
  omega

/-- An address outside the stack page is no stack address. -/
theorem stackAddr_ne {a : Address} (h : a.toNat < 256 ∨ 512 ≤ a.toNat) (sp : Byte) : stackAddr sp ≠ a := by
  intro e
  have h1 := stackAddr_toNat sp
  have h2 := sp.isLt
  rw [e] at h1
  omega

/-! The resolver as integers (40 R125 to R133). -/

theorem zeroPage_toNat (b : Byte) : (zeroPage b).toNat = b.toNat := by
  have := b.isLt
  simp [zeroPage]
  omega

/-- An indexed address wraps modulo 65536 (40 R129, R130). -/
theorem indexed_toNat (w : Address) (r : Byte) : (w + r.setWidth 16).toNat = (w.toNat + r.toNat) % 65536 := by
  have := r.isLt
  simp [BitVec.toNat_add]

/-- The high byte of a pointer comes from the next address of the same page (40 R131). -/
theorem nextInPage_toNat (w : Address) :
    (wordOf (highByte w) (lowByte w + 1)).toNat = w.toNat / 256 * 256 + (w.toNat % 256 + 1) % 256 := by
  rw [wordOf_toNat, highByte_toNat, BitVec.toNat_add, lowByte_toNat]
  rfl

/-! The arithmetic and shift operations. -/

/-- What ADC and SBC write of P: N, V, Z and C (42 R210, R211). -/
@[simp] theorem writeSum_flag (s : State) (r : CoreResult) (f : Flag) :
    (s.writeSum r).flag f =
      if f = .N then r.result.getLsbD 7 else if f = .Z then decide (r.result = 0#8) else if f = .V then r.overflow
      else if f = .C then r.carry else s.flag f := by
  simp [State.writeSum]

/-- What INC and DEC write of P: N and Z (42 R219, R220). -/
@[simp] theorem writeBack_flag (s : State) (a : Address) (r : Byte) (f : Flag) :
    (s.writeBack a r).flag f = if f = .N then r.getLsbD 7 else if f = .Z then decide (r = 0#8) else s.flag f := by
  simp [State.writeBack]

/-- What INC and DEC write of memory: the one byte (42 R219, R220). -/
@[simp] theorem writeBack_read (s : State) (a b : Address) (r : Byte) :
    (s.writeBack a r).read b = if a = b then r else s.read b := by
  simp [State.writeBack]

/-- A shift of the accumulator (43 R250). -/
@[simp] theorem shiftAt_acc (core : ShiftCore) (s : State) :
    shiftAt core .acc s =
      ((s.setA (core s.A (s.flag .C)).result).setFlag .C (core s.A (s.flag .C)).out).setZN (core s.A (s.flag .C)).result := rfl

/-- A shift of a byte of memory (43 R250). -/
@[simp] theorem shiftAt_mem (core : ShiftCore) (a : Address) (s : State) :
    shiftAt core (.mem a) s =
      ((s.write a (core (s.read a) (s.flag .C)).result).setFlag .C (core (s.read a) (s.flag .C)).out).setZN
        (core (s.read a) (s.flag .C)).result := rfl

/-- A taken branch moves PC by its displacement and pays 1, or 2 across a page (44 R270). -/
theorem branchIf_taken (d : Int) (s : State) :
    branchIf true d s =
      ⟨s.setPC (s.PC + BitVec.ofInt 16 d), if samePage s.PC (s.PC + BitVec.ofInt 16 d) then 1 else 2⟩ := rfl

/-- A branch not taken changes nothing (44 R270). -/
theorem branchIf_not_taken (d : Int) (s : State) : branchIf false d s = s.noPenalty := rfl

/-! The trap. -/

/-- Trap entry writes its three stack bytes (45 R311). -/
theorem takeBreak_read (s : State) (a : Address) :
    s.takeBreak.read a =
      if stackAddr (s.SP - 1 - 1) = a then pushedStatus s.P else (s.pushWord (s.PC + 1)).read a := by
  simp [State.takeBreak]

@[simp] theorem takeBreak_flag (s : State) (f : Flag) : s.takeBreak.flag f = if f = .I then true else s.flag f := by
  simp [State.takeBreak]

/-- Trap entry goes to the word at the BRK vector, which the pushes cannot reach (20 R69). -/
theorem takeBreak_PC (s : State) : s.takeBreak.PC = wordOf (s.read 0xFFFF#16) (s.read 0xFFFE#16) := by
  have h1 := fun sp => stackAddr_ne (a := 0xFFFF#16) (.inr (by decide)) sp
  have h2 := fun sp => stackAddr_ne (a := 0xFFFE#16) (.inr (by decide)) sp
  simp [State.takeBreak, State.readWord, breakVector, pushWord_read, h1, h2]

@[simp] theorem returnFromBreak_flag (s : State) (f : Flag) :
    s.returnFromBreak.flag f = flagOf f (pulledStatus (s.read (stackAddr (s.SP + 1)))) := by
  simp only [State.flag, returnFromBreak_P]

/-! Running an instruction. -/

@[simp] theorem noPenalty_post (s : State) : s.noPenalty.post = s := rfl
@[simp] theorem noPenalty_penalty (s : State) : s.noPenalty.penalty = 0 := rfl

/-- `runInstr` always answers a next state: the executor's, in the advanced state, with its cost (46 R345, R348). -/
theorem runInstr_next (size base : Nat) (body : State → Effect) (s : State) :
    runInstr size base body s =
      .next ((body (s.advance size)).post.setRemaining (base + (body (s.advance size)).penalty)) := rfl

theorem execMem_next (base : Nat) (ex : MemOperand → State → Effect) (f : MemForm) (s : State) :
    execMem base ex f s =
      .next ((ex (resolveMem f (s.advance f.mode.size)) (s.advance f.mode.size)).post.setRemaining
        (base + (ex (resolveMem f (s.advance f.mode.size)) (s.advance f.mode.size)).penalty)) := rfl

theorem execOne_next (base : Nat) (ex : State → State) (s : State) :
    execOne base ex s = .next ((ex (s.advance 1)).setRemaining base) := rfl

/-- A page-crossing penalty is at most 1 (46 R350). -/
theorem penalty_le_one (op : MemOperand) : op.penalty ≤ 1 := by
  cases op with
  | addr => simp [MemOperand.penalty]
  | addrPC a c => cases c <;> simp [MemOperand.penalty]

end Sys2Proof.Machine
end

