-- ==== Sys2Proof/Laws/Decode.lean ====
section
/-! SUPPORT. What the rows of the opcode table build, and what a decode that succeeds has read (30 R90 to R98). -/

namespace Sys2Proof

@[simp] theorem ofInt_sext8 (b : Byte) : BitVec.ofInt 8 (sext8 b) = b := by simp [sext8]

/-- A displacement lies in -128..127 (30 R92). -/
theorem sext8_range (b : Byte) : -128 ≤ sext8 b ∧ sext8 b ≤ 127 := by
  have h1 := BitVec.le_toInt b
  have h2 := BitVec.toInt_lt (x := b)
  unfold sext8
  omega

/-- The operand bytes of a format (30 R91). -/
def Format.operands (f : Format) (b1 b2 : Byte) : List Byte :=
  match f with
  | .one => []
  | .two => [b1]
  | .three => [b1, b2]

/-- What a row builds has the row's mnemonic and mode, is well formed, and encodes to the row's opcode and the operand bytes. -/
structure OpcodeRow.Sound (r : OpcodeRow) : Prop where
  mnemonic : ∀ b1 b2, (r.build b1 b2).mnemonic = r.mnemonic
  mode : ∀ b1 b2, (r.build b1 b2).mode = r.mode
  wf : ∀ b1 b2, (r.build b1 b2).wf
  bytes : ∀ b1 b2, encode (r.build b1 b2) = r.opcode :: r.mode.format.operands b1 b2

theorem row_sound (n : Nat) : ∀ r ∈ opcodeMapLine n, r.Sound := by
  unfold opcodeMapLine
  split <;>
  simp only [opcodeRows0, opcodeRows1, opcodeRows2, opcodeRows3, opcodeRows4, opcodeRows5, opcodeRows6, opcodeRows7,
    opcodeRows8, opcodeRows9, opcodeRowsA, opcodeRowsB, opcodeRowsC, opcodeRowsD, opcodeRowsE, opcodeRowsF,
    List.forall_mem_cons, List.not_mem_nil, false_imp_iff, implies_true, and_true] <;>
  (repeat' apply And.intro) <;>
  exact ⟨fun _ _ => rfl, fun _ _ => rfl, fun _ _ => by first | rfl | exact decide_eq_true (sext8_range _),
    fun _ _ => by simp [encode, Instr.opcode, Instr.operand, Operand.bytes, MemForm.bytes, Mode.format, Format.operands]⟩

/-- A lookup that succeeds gives a sound row with the opcode looked up (46 R344). -/
theorem lookup_sound {op : Byte} {r : OpcodeRow} (h : lookupOpcode op = some r) : r.opcode = op ∧ r.Sound :=
  ⟨by simpa using List.find?_some h, row_sound _ r (List.mem_of_find?_eq_some h)⟩

/-- What a decode that succeeds has read: an opcode with a row, and as many operand bytes as the row's format has. -/
theorem decode_cases {bytes rest : List Byte} {i : Instr} (h : decode bytes = .ok (i, rest)) :
    ∃ op r b1 b2, lookupOpcode op = some r ∧ i = r.build b1 b2 ∧ bytes = op :: (r.mode.format.operands b1 b2 ++ rest) := by
  cases bytes with
  | nil => cases h
  | cons op tail =>
    unfold decode at h
    cases hr : lookupOpcode op with
    | none => simp [hr] at h
    | some r =>
      simp only [hr] at h
      split at h <;> cases h
      · rename_i hf
        exact ⟨op, r, 0, 0, hr, rfl, by simp [hf, Format.operands]⟩
      · rename_i b1 hf
        exact ⟨op, r, b1, 0, hr, rfl, by simp [hf, Format.operands]⟩
      · rename_i b1 b2 hf
        exact ⟨op, r, b1, b2, hr, rfl, by simp [hf, Format.operands]⟩

/-- Decoding a one-byte row. -/
theorem decode_one {op : Byte} {r : OpcodeRow} (h : lookupOpcode op = some r) (hf : r.mode.format = .one) (rest : List Byte) :
    decode (op :: rest) = .ok (r.build 0 0, rest) := by
  simp [decode, h, hf]

/-- Decoding a two-byte row. -/
theorem decode_two {op : Byte} {r : OpcodeRow} (h : lookupOpcode op = some r) (hf : r.mode.format = .two) (b1 : Byte)
    (rest : List Byte) : decode (op :: b1 :: rest) = .ok (r.build b1 0, rest) := by
  simp [decode, h, hf]

/-- Decoding a three-byte row. -/
theorem decode_three {op : Byte} {r : OpcodeRow} (h : lookupOpcode op = some r) (hf : r.mode.format = .three) (b1 b2 : Byte)
    (rest : List Byte) : decode (op :: b1 :: b2 :: rest) = .ok (r.build b1 b2, rest) := by
  simp [decode, h, hf]

end Sys2Proof
end

