-- ==== Sys2Proof/Laws/Exec.lean ====
section
/-! SUPPORT. What every instruction and every step does to the bookkeeping: one inversion lemma for `exec` and one for `step`,
from which each invariant follows without unfolding either. -/

namespace Sys2Proof.Machine

/-- What the executors of all instructions have in common: counters and latch untouched, memory left canonical. -/
structure Tame (s : State) (t : State) : Prop where
  total : t.total = s.total
  halted : t.halted = s.halted
  memory : s.mem.wf → t.mem.wf

theorem Tame.refl (s : State) : Tame s s := ⟨rfl, rfl, id⟩

theorem Tame.trans {s t u : State} (h : Tame s t) (k : Tame t u) : Tame s u :=
  ⟨k.total.trans h.total, k.halted.trans h.halted, k.memory ∘ h.memory⟩

/-- An update that keeps `mem`, `total` and `halted` is tame. -/
theorem Tame.of_eq {s t : State} (hm : t.mem = s.mem) (ht : t.total = s.total) (hh : t.halted = s.halted) : Tame s t :=
  ⟨ht, hh, fun h => hm ▸ h⟩

theorem tame_write (s : State) (a : Address) (v : Byte) : Tame s (s.write a v) := ⟨rfl, rfl, fun h => write_keeps_wf h a v⟩
theorem tame_setZN (s : State) (v : Byte) : Tame s (s.setZN v) := .of_eq rfl rfl rfl
theorem tame_setFlag (s : State) (f : Flag) (v : Bool) : Tame s (s.setFlag f v) := .of_eq rfl rfl rfl
theorem tame_compare (s : State) (r m : Byte) : Tame s (s.compare r m) := .of_eq rfl rfl rfl
theorem tame_loadA (s : State) (v : Byte) : Tame s (s.loadA v) := .of_eq rfl rfl rfl
theorem tame_loadX (s : State) (v : Byte) : Tame s (s.loadX v) := .of_eq rfl rfl rfl
theorem tame_loadY (s : State) (v : Byte) : Tame s (s.loadY v) := .of_eq rfl rfl rfl
theorem tame_writeSum (s : State) (r : CoreResult) : Tame s (s.writeSum r) := .of_eq rfl rfl rfl
theorem tame_push (s : State) (v : Byte) : Tame s (s.push v) := ⟨rfl, rfl, fun h => push_keeps_wf h v⟩
theorem tame_pushWord (s : State) (w : Address) : Tame s (s.pushWord w) := (tame_push s _).trans (tame_push _ _)
theorem tame_takeBreak (s : State) : Tame s s.takeBreak := ⟨by simp, by simp, takeBreak_keeps_wf⟩
theorem tame_returnFromBreak (s : State) : Tame s s.returnFromBreak := .of_eq (by simp) (by simp) (by simp)
theorem tame_writeBack (s : State) (a : Address) (r : Byte) : Tame s (s.writeBack a r) := (tame_write s a r).trans (tame_setZN _ r)

theorem tame_shiftAt (core : ShiftCore) (p : ShiftPlace) (s : State) : Tame s (shiftAt core p s) := by
  cases p with
  | acc => exact .of_eq rfl rfl rfl
  | mem a => exact (tame_write s a _).trans ((tame_setFlag _ _ _).trans (tame_setZN _ _))

theorem tame_branchIf (c : Bool) (d : Int) (s : State) : Tame s (branchIf c d s).post := by
  cases c <;> exact .of_eq rfl rfl rfl

theorem branchIf_penalty_le (c : Bool) (d : Int) (s : State) : (branchIf c d s).penalty ≤ 2 := by
  cases c
  · exact Nat.zero_le _
  · simp only [branchIf, if_true]
    split <;> omega

/-- A run of a tame executor is tame, and costs its base and penalty. -/
theorem runInstr_tame {size base : Nat} {body : State → Effect} {s : State} {k : Nat}
    (h : Tame (s.advance size) (body (s.advance size)).post) (hp : (body (s.advance size)).penalty ≤ k) :
    ∃ t, runInstr size base body s = .next t ∧ Tame s t ∧ base ≤ t.remaining ∧ t.remaining ≤ base + k := by
  refine ⟨_, rfl, ?_, ?_, ?_⟩
  · exact (Tame.of_eq rfl rfl rfl : Tame s (s.advance size)).trans (h.trans (.of_eq rfl rfl rfl))
  · simp
  · simpa using hp

theorem execOne_tame {base : Nat} {ex : State → State} {s : State} (h : ∀ s, Tame s (ex s)) :
    ∃ t, execOne base ex s = .next t ∧ Tame s t ∧ base ≤ t.remaining ∧ t.remaining ≤ base + 0 :=
  runInstr_tame (h _) (Nat.le_refl 0)

theorem execMem_tame {base k : Nat} {ex : MemOperand → State → Effect} {f : MemForm} {s : State}
    (h : ∀ op s, Tame s (ex op s).post ∧ (ex op s).penalty ≤ k) :
    ∃ t, execMem base ex f s = .next t ∧ Tame s t ∧ base ≤ t.remaining ∧ t.remaining ≤ base + k :=
  runInstr_tame (h _ _).1 (h _ _).2

/-- An executor on a memory operand is tame and its penalty is at most `k`. -/
abbrev TameEx (k : Nat) (ex : MemOperand → State → Effect) : Prop := ∀ op s, Tame s (ex op s).post ∧ (ex op s).penalty ≤ k

theorem tame_ldaOp : TameEx 1 ldaOp := fun op s => ⟨tame_loadA s _, penalty_le_one op⟩
theorem tame_ldxOp : TameEx 1 ldxOp := fun op s => ⟨tame_loadX s _, penalty_le_one op⟩
theorem tame_ldyOp : TameEx 1 ldyOp := fun op s => ⟨tame_loadY s _, penalty_le_one op⟩
theorem tame_adcOp : TameEx 1 adcOp := fun op s => ⟨tame_writeSum s _, penalty_le_one op⟩
theorem tame_sbcOp : TameEx 1 sbcOp := fun op s => ⟨tame_writeSum s _, penalty_le_one op⟩
theorem tame_andOp : TameEx 1 andOp := fun op s => ⟨tame_loadA s _, penalty_le_one op⟩
theorem tame_oraOp : TameEx 1 oraOp := fun op s => ⟨tame_loadA s _, penalty_le_one op⟩
theorem tame_eorOp : TameEx 1 eorOp := fun op s => ⟨tame_loadA s _, penalty_le_one op⟩
theorem tame_cmpOp : TameEx 1 cmpOp := fun op s => ⟨tame_compare s _ _, penalty_le_one op⟩
theorem tame_cpxOp : TameEx 0 cpxOp := fun _ s => ⟨tame_compare s _ _, Nat.le_refl 0⟩
theorem tame_cpyOp : TameEx 0 cpyOp := fun _ s => ⟨tame_compare s _ _, Nat.le_refl 0⟩
theorem tame_staOp : TameEx 0 staOp := fun _ s => ⟨tame_write s _ _, Nat.le_refl 0⟩
theorem tame_stxOp : TameEx 0 stxOp := fun _ s => ⟨tame_write s _ _, Nat.le_refl 0⟩
theorem tame_styOp : TameEx 0 styOp := fun _ s => ⟨tame_write s _ _, Nat.le_refl 0⟩
theorem tame_incOp : TameEx 0 incOp := fun _ s => ⟨tame_writeBack s _ _, Nat.le_refl 0⟩
theorem tame_decOp : TameEx 0 decOp := fun _ s => ⟨tame_writeBack s _ _, Nat.le_refl 0⟩
theorem tame_aslOp : TameEx 0 aslOp := fun _ s => ⟨tame_shiftAt _ _ s, Nat.le_refl 0⟩
theorem tame_lsrOp : TameEx 0 lsrOp := fun _ s => ⟨tame_shiftAt _ _ s, Nat.le_refl 0⟩
theorem tame_rolOp : TameEx 0 rolOp := fun _ s => ⟨tame_shiftAt _ _ s, Nat.le_refl 0⟩
theorem tame_rorOp : TameEx 0 rorOp := fun _ s => ⟨tame_shiftAt _ _ s, Nat.le_refl 0⟩
theorem tame_jmpOp : TameEx 0 jmpOp := fun _ _ => ⟨.of_eq rfl rfl rfl, Nat.le_refl 0⟩
theorem tame_jsrOp : TameEx 0 jsrOp := fun _ s => ⟨(tame_pushWord s _).trans (.of_eq rfl rfl rfl), Nat.le_refl 0⟩
theorem tame_bitOp : TameEx 0 bitOp := fun _ _ => ⟨.of_eq rfl rfl rfl, Nat.le_refl 0⟩
theorem tame_taxOp (s : State) : Tame s (taxOp s) := tame_loadX s _
theorem tame_tayOp (s : State) : Tame s (tayOp s) := tame_loadY s _
theorem tame_txaOp (s : State) : Tame s (txaOp s) := tame_loadA s _
theorem tame_tyaOp (s : State) : Tame s (tyaOp s) := tame_loadA s _
theorem tame_tsxOp (s : State) : Tame s (tsxOp s) := tame_loadX s _
theorem tame_txsOp (s : State) : Tame s (txsOp s) := .of_eq rfl rfl rfl
theorem tame_inxOp (s : State) : Tame s (inxOp s) := tame_loadX s _
theorem tame_inyOp (s : State) : Tame s (inyOp s) := tame_loadY s _
theorem tame_dexOp (s : State) : Tame s (dexOp s) := tame_loadX s _
theorem tame_deyOp (s : State) : Tame s (deyOp s) := tame_loadY s _
theorem tame_rtsOp (s : State) : Tame s (rtsOp s) := .of_eq rfl rfl rfl
theorem tame_phaOp (s : State) : Tame s (phaOp s) := tame_push s _
theorem tame_phpOp (s : State) : Tame s (phpOp s) := tame_push s _
theorem tame_plaOp (s : State) : Tame s (plaOp s) := .of_eq rfl rfl rfl
theorem tame_plpOp (s : State) : Tame s (plpOp s) := .of_eq rfl rfl rfl
theorem tame_clcOp (s : State) : Tame s (clcOp s) := tame_setFlag s _ _
theorem tame_secOp (s : State) : Tame s (secOp s) := tame_setFlag s _ _
theorem tame_cliOp (s : State) : Tame s (cliOp s) := tame_setFlag s _ _
theorem tame_seiOp (s : State) : Tame s (seiOp s) := tame_setFlag s _ _
theorem tame_cldOp (s : State) : Tame s (cldOp s) := tame_setFlag s _ _
theorem tame_sedOp (s : State) : Tame s (sedOp s) := tame_setFlag s _ _
theorem tame_clvOp (s : State) : Tame s (clvOp s) := tame_setFlag s _ _
theorem tame_brkOp (s : State) : Tame s (brkOp s) := tame_takeBreak s
theorem tame_rtiOp (s : State) : Tame s (rtiOp s) := tame_returnFromBreak s
theorem tame_nopOp (s : State) : Tame s (nopOp s) := .refl s
theorem tame_bccOp (d : Int) (s : State) : Tame s (bccOp d s).post ∧ (bccOp d s).penalty ≤ 2 :=
  ⟨tame_branchIf _ d s, branchIf_penalty_le _ d s⟩
theorem tame_bcsOp (d : Int) (s : State) : Tame s (bcsOp d s).post ∧ (bcsOp d s).penalty ≤ 2 :=
  ⟨tame_branchIf _ d s, branchIf_penalty_le _ d s⟩
theorem tame_beqOp (d : Int) (s : State) : Tame s (beqOp d s).post ∧ (beqOp d s).penalty ≤ 2 :=
  ⟨tame_branchIf _ d s, branchIf_penalty_le _ d s⟩
theorem tame_bmiOp (d : Int) (s : State) : Tame s (bmiOp d s).post ∧ (bmiOp d s).penalty ≤ 2 :=
  ⟨tame_branchIf _ d s, branchIf_penalty_le _ d s⟩
theorem tame_bneOp (d : Int) (s : State) : Tame s (bneOp d s).post ∧ (bneOp d s).penalty ≤ 2 :=
  ⟨tame_branchIf _ d s, branchIf_penalty_le _ d s⟩
theorem tame_bplOp (d : Int) (s : State) : Tame s (bplOp d s).post ∧ (bplOp d s).penalty ≤ 2 :=
  ⟨tame_branchIf _ d s, branchIf_penalty_le _ d s⟩
theorem tame_bvcOp (d : Int) (s : State) : Tame s (bvcOp d s).post ∧ (bvcOp d s).penalty ≤ 2 :=
  ⟨tame_branchIf _ d s, branchIf_penalty_le _ d s⟩
theorem tame_bvsOp (d : Int) (s : State) : Tame s (bvsOp d s).post ∧ (bvsOp d s).penalty ≤ 2 :=
  ⟨tame_branchIf _ d s, branchIf_penalty_le _ d s⟩

/-- `exec` of a whole instruction: tame, and between 2 and 7 cycles (10 R33). -/
abbrev TameRun (o : Host.Outcome State Fault Refusal) (s : State) : Prop :=
  ∃ t, o = .next t ∧ Tame s t ∧ 2 ≤ t.remaining ∧ t.remaining ≤ 7

theorem tameRun_of {o : Host.Outcome State Fault Refusal} {s : State} {base k : Nat}
    (h : ∃ t, o = .next t ∧ Tame s t ∧ base ≤ t.remaining ∧ t.remaining ≤ base + k) (h2 : 2 ≤ base) (h7 : base + k ≤ 7) :
    TameRun o s := by
  obtain ⟨t, ho, ht, hb, hk⟩ := h
  exact ⟨t, ho, ht, h2.trans hb, hk.trans h7⟩

/-- A row with a memory operand. -/
theorem tameRun_mem {base k : Nat} {ex : MemOperand → State → Effect} {f : MemForm} {s : State} (h : TameEx k ex) (h2 : 2 ≤ base)
    (h7 : base + k ≤ 7) : TameRun (execMem base ex f s) s :=
  tameRun_of (execMem_tame h) h2 h7

/-- A one-byte row. -/
theorem tameRun_one {base : Nat} {ex : State → State} {s : State} (h : ∀ s, Tame s (ex s)) (h2 : 2 ≤ base) (h7 : base + 0 ≤ 7) :
    TameRun (execOne base ex s) s :=
  tameRun_of (execOne_tame h) h2 h7

/-- A branch row. -/
theorem tameRun_branch {base : Nat} {op : Int → State → Effect} {d : Int} {s : State}
    (h : ∀ d s, Tame s (op d s).post ∧ (op d s).penalty ≤ 2) (h2 : 2 ≤ base) (h7 : base + 2 ≤ 7) :
    TameRun (runInstr 2 base (op d) s) s :=
  tameRun_of (runInstr_tame (h _ _).1 (h _ _).2) h2 h7

/-- Every instruction answers a next state (60 R382), leaves `total` and `halted` alone, keeps memory canonical, and owes
between 2 and 7 cycles. -/
theorem exec_tame : ∀ (i : Instr) (s : State), TameRun (exec i s) s
  | .brk, s => tameRun_one tame_brkOp (by decide) (by decide)
  | .oraXInd _, s => tameRun_mem tame_oraOp (by decide) (by decide)
  | .oraZp _, s => tameRun_mem tame_oraOp (by decide) (by decide)
  | .aslZp _, s => tameRun_mem tame_aslOp (by decide) (by decide)
  | .php, s => tameRun_one tame_phpOp (by decide) (by decide)
  | .oraImm _, s => tameRun_mem tame_oraOp (by decide) (by decide)
  | .aslAcc, s => tameRun_one (tame_shiftAt _ _) (by decide) (by decide)
  | .oraAbs _, s => tameRun_mem tame_oraOp (by decide) (by decide)
  | .aslAbs _, s => tameRun_mem tame_aslOp (by decide) (by decide)
  | .bpl _, s => tameRun_branch tame_bplOp (by decide) (by decide)
  | .oraIndY _, s => tameRun_mem tame_oraOp (by decide) (by decide)
  | .oraZpX _, s => tameRun_mem tame_oraOp (by decide) (by decide)
  | .aslZpX _, s => tameRun_mem tame_aslOp (by decide) (by decide)
  | .clc, s => tameRun_one tame_clcOp (by decide) (by decide)
  | .oraAbsY _, s => tameRun_mem tame_oraOp (by decide) (by decide)
  | .oraAbsX _, s => tameRun_mem tame_oraOp (by decide) (by decide)
  | .aslAbsX _, s => tameRun_mem tame_aslOp (by decide) (by decide)
  | .jsr _, s => tameRun_mem tame_jsrOp (by decide) (by decide)
  | .andXInd _, s => tameRun_mem tame_andOp (by decide) (by decide)
  | .bitZp _, s => tameRun_mem tame_bitOp (by decide) (by decide)
  | .andZp _, s => tameRun_mem tame_andOp (by decide) (by decide)
  | .rolZp _, s => tameRun_mem tame_rolOp (by decide) (by decide)
  | .plp, s => tameRun_one tame_plpOp (by decide) (by decide)
  | .andImm _, s => tameRun_mem tame_andOp (by decide) (by decide)
  | .rolAcc, s => tameRun_one (tame_shiftAt _ _) (by decide) (by decide)
  | .bitAbs _, s => tameRun_mem tame_bitOp (by decide) (by decide)
  | .andAbs _, s => tameRun_mem tame_andOp (by decide) (by decide)
  | .rolAbs _, s => tameRun_mem tame_rolOp (by decide) (by decide)
  | .bmi _, s => tameRun_branch tame_bmiOp (by decide) (by decide)
  | .andIndY _, s => tameRun_mem tame_andOp (by decide) (by decide)
  | .andZpX _, s => tameRun_mem tame_andOp (by decide) (by decide)
  | .rolZpX _, s => tameRun_mem tame_rolOp (by decide) (by decide)
  | .sec, s => tameRun_one tame_secOp (by decide) (by decide)
  | .andAbsY _, s => tameRun_mem tame_andOp (by decide) (by decide)
  | .andAbsX _, s => tameRun_mem tame_andOp (by decide) (by decide)
  | .rolAbsX _, s => tameRun_mem tame_rolOp (by decide) (by decide)
  | .rti, s => tameRun_one tame_rtiOp (by decide) (by decide)
  | .eorXInd _, s => tameRun_mem tame_eorOp (by decide) (by decide)
  | .eorZp _, s => tameRun_mem tame_eorOp (by decide) (by decide)
  | .lsrZp _, s => tameRun_mem tame_lsrOp (by decide) (by decide)
  | .pha, s => tameRun_one tame_phaOp (by decide) (by decide)
  | .eorImm _, s => tameRun_mem tame_eorOp (by decide) (by decide)
  | .lsrAcc, s => tameRun_one (tame_shiftAt _ _) (by decide) (by decide)
  | .jmpAbs _, s => tameRun_mem tame_jmpOp (by decide) (by decide)
  | .eorAbs _, s => tameRun_mem tame_eorOp (by decide) (by decide)
  | .lsrAbs _, s => tameRun_mem tame_lsrOp (by decide) (by decide)
  | .bvc _, s => tameRun_branch tame_bvcOp (by decide) (by decide)
  | .eorIndY _, s => tameRun_mem tame_eorOp (by decide) (by decide)
  | .eorZpX _, s => tameRun_mem tame_eorOp (by decide) (by decide)
  | .lsrZpX _, s => tameRun_mem tame_lsrOp (by decide) (by decide)
  | .cli, s => tameRun_one tame_cliOp (by decide) (by decide)
  | .eorAbsY _, s => tameRun_mem tame_eorOp (by decide) (by decide)
  | .eorAbsX _, s => tameRun_mem tame_eorOp (by decide) (by decide)
  | .lsrAbsX _, s => tameRun_mem tame_lsrOp (by decide) (by decide)
  | .rts, s => tameRun_one tame_rtsOp (by decide) (by decide)
  | .adcXInd _, s => tameRun_mem tame_adcOp (by decide) (by decide)
  | .adcZp _, s => tameRun_mem tame_adcOp (by decide) (by decide)
  | .rorZp _, s => tameRun_mem tame_rorOp (by decide) (by decide)
  | .pla, s => tameRun_one tame_plaOp (by decide) (by decide)
  | .adcImm _, s => tameRun_mem tame_adcOp (by decide) (by decide)
  | .rorAcc, s => tameRun_one (tame_shiftAt _ _) (by decide) (by decide)
  | .jmpInd _, s => tameRun_mem tame_jmpOp (by decide) (by decide)
  | .adcAbs _, s => tameRun_mem tame_adcOp (by decide) (by decide)
  | .rorAbs _, s => tameRun_mem tame_rorOp (by decide) (by decide)
  | .bvs _, s => tameRun_branch tame_bvsOp (by decide) (by decide)
  | .adcIndY _, s => tameRun_mem tame_adcOp (by decide) (by decide)
  | .adcZpX _, s => tameRun_mem tame_adcOp (by decide) (by decide)
  | .rorZpX _, s => tameRun_mem tame_rorOp (by decide) (by decide)
  | .sei, s => tameRun_one tame_seiOp (by decide) (by decide)
  | .adcAbsY _, s => tameRun_mem tame_adcOp (by decide) (by decide)
  | .adcAbsX _, s => tameRun_mem tame_adcOp (by decide) (by decide)
  | .rorAbsX _, s => tameRun_mem tame_rorOp (by decide) (by decide)
  | .staXInd _, s => tameRun_mem tame_staOp (by decide) (by decide)
  | .styZp _, s => tameRun_mem tame_styOp (by decide) (by decide)
  | .staZp _, s => tameRun_mem tame_staOp (by decide) (by decide)
  | .stxZp _, s => tameRun_mem tame_stxOp (by decide) (by decide)
  | .dey, s => tameRun_one tame_deyOp (by decide) (by decide)
  | .txa, s => tameRun_one tame_txaOp (by decide) (by decide)
  | .styAbs _, s => tameRun_mem tame_styOp (by decide) (by decide)
  | .staAbs _, s => tameRun_mem tame_staOp (by decide) (by decide)
  | .stxAbs _, s => tameRun_mem tame_stxOp (by decide) (by decide)
  | .bcc _, s => tameRun_branch tame_bccOp (by decide) (by decide)
  | .staIndY _, s => tameRun_mem tame_staOp (by decide) (by decide)
  | .styZpX _, s => tameRun_mem tame_styOp (by decide) (by decide)
  | .staZpX _, s => tameRun_mem tame_staOp (by decide) (by decide)
  | .stxZpY _, s => tameRun_mem tame_stxOp (by decide) (by decide)
  | .tya, s => tameRun_one tame_tyaOp (by decide) (by decide)
  | .staAbsY _, s => tameRun_mem tame_staOp (by decide) (by decide)
  | .txs, s => tameRun_one tame_txsOp (by decide) (by decide)
  | .staAbsX _, s => tameRun_mem tame_staOp (by decide) (by decide)
  | .ldyImm _, s => tameRun_mem tame_ldyOp (by decide) (by decide)
  | .ldaXInd _, s => tameRun_mem tame_ldaOp (by decide) (by decide)
  | .ldxImm _, s => tameRun_mem tame_ldxOp (by decide) (by decide)
  | .ldyZp _, s => tameRun_mem tame_ldyOp (by decide) (by decide)
  | .ldaZp _, s => tameRun_mem tame_ldaOp (by decide) (by decide)
  | .ldxZp _, s => tameRun_mem tame_ldxOp (by decide) (by decide)
  | .tay, s => tameRun_one tame_tayOp (by decide) (by decide)
  | .ldaImm _, s => tameRun_mem tame_ldaOp (by decide) (by decide)
  | .tax, s => tameRun_one tame_taxOp (by decide) (by decide)
  | .ldyAbs _, s => tameRun_mem tame_ldyOp (by decide) (by decide)
  | .ldaAbs _, s => tameRun_mem tame_ldaOp (by decide) (by decide)
  | .ldxAbs _, s => tameRun_mem tame_ldxOp (by decide) (by decide)
  | .bcs _, s => tameRun_branch tame_bcsOp (by decide) (by decide)
  | .ldaIndY _, s => tameRun_mem tame_ldaOp (by decide) (by decide)
  | .ldyZpX _, s => tameRun_mem tame_ldyOp (by decide) (by decide)
  | .ldaZpX _, s => tameRun_mem tame_ldaOp (by decide) (by decide)
  | .ldxZpY _, s => tameRun_mem tame_ldxOp (by decide) (by decide)
  | .clv, s => tameRun_one tame_clvOp (by decide) (by decide)
  | .ldaAbsY _, s => tameRun_mem tame_ldaOp (by decide) (by decide)
  | .tsx, s => tameRun_one tame_tsxOp (by decide) (by decide)
  | .ldyAbsX _, s => tameRun_mem tame_ldyOp (by decide) (by decide)
  | .ldaAbsX _, s => tameRun_mem tame_ldaOp (by decide) (by decide)
  | .ldxAbsY _, s => tameRun_mem tame_ldxOp (by decide) (by decide)
  | .cpyImm _, s => tameRun_mem tame_cpyOp (by decide) (by decide)
  | .cmpXInd _, s => tameRun_mem tame_cmpOp (by decide) (by decide)
  | .cpyZp _, s => tameRun_mem tame_cpyOp (by decide) (by decide)
  | .cmpZp _, s => tameRun_mem tame_cmpOp (by decide) (by decide)
  | .decZp _, s => tameRun_mem tame_decOp (by decide) (by decide)
  | .iny, s => tameRun_one tame_inyOp (by decide) (by decide)
  | .cmpImm _, s => tameRun_mem tame_cmpOp (by decide) (by decide)
  | .dex, s => tameRun_one tame_dexOp (by decide) (by decide)
  | .cpyAbs _, s => tameRun_mem tame_cpyOp (by decide) (by decide)
  | .cmpAbs _, s => tameRun_mem tame_cmpOp (by decide) (by decide)
  | .decAbs _, s => tameRun_mem tame_decOp (by decide) (by decide)
  | .bne _, s => tameRun_branch tame_bneOp (by decide) (by decide)
  | .cmpIndY _, s => tameRun_mem tame_cmpOp (by decide) (by decide)
  | .cmpZpX _, s => tameRun_mem tame_cmpOp (by decide) (by decide)
  | .decZpX _, s => tameRun_mem tame_decOp (by decide) (by decide)
  | .cld, s => tameRun_one tame_cldOp (by decide) (by decide)
  | .cmpAbsY _, s => tameRun_mem tame_cmpOp (by decide) (by decide)
  | .cmpAbsX _, s => tameRun_mem tame_cmpOp (by decide) (by decide)
  | .decAbsX _, s => tameRun_mem tame_decOp (by decide) (by decide)
  | .cpxImm _, s => tameRun_mem tame_cpxOp (by decide) (by decide)
  | .sbcXInd _, s => tameRun_mem tame_sbcOp (by decide) (by decide)
  | .cpxZp _, s => tameRun_mem tame_cpxOp (by decide) (by decide)
  | .sbcZp _, s => tameRun_mem tame_sbcOp (by decide) (by decide)
  | .incZp _, s => tameRun_mem tame_incOp (by decide) (by decide)
  | .inx, s => tameRun_one tame_inxOp (by decide) (by decide)
  | .sbcImm _, s => tameRun_mem tame_sbcOp (by decide) (by decide)
  | .nop, s => tameRun_one tame_nopOp (by decide) (by decide)
  | .cpxAbs _, s => tameRun_mem tame_cpxOp (by decide) (by decide)
  | .sbcAbs _, s => tameRun_mem tame_sbcOp (by decide) (by decide)
  | .incAbs _, s => tameRun_mem tame_incOp (by decide) (by decide)
  | .beq _, s => tameRun_branch tame_beqOp (by decide) (by decide)
  | .sbcIndY _, s => tameRun_mem tame_sbcOp (by decide) (by decide)
  | .sbcZpX _, s => tameRun_mem tame_sbcOp (by decide) (by decide)
  | .incZpX _, s => tameRun_mem tame_incOp (by decide) (by decide)
  | .sed, s => tameRun_one tame_sedOp (by decide) (by decide)
  | .sbcAbsY _, s => tameRun_mem tame_sbcOp (by decide) (by decide)
  | .sbcAbsX _, s => tameRun_mem tame_sbcOp (by decide) (by decide)
  | .incAbsX _, s => tameRun_mem tame_incOp (by decide) (by decide)

/-- What one Step can do (46 R340 to R343, 60 R381): nothing when halted, a tick when counting, the decode error, or one
instruction and the tick. -/
theorem step_cases {s t : State} (h : step s = .next t) :
    (∃ e, s.halted = some e ∧ t = s) ∨
    (s.halted = none ∧ 0 < s.remaining ∧ t = s.tick) ∨
    (s.halted = none ∧ s.remaining = 0 ∧ fetch s = none ∧ t = s.raiseDecodeError (s.read s.PC) s.PC) ∨
    (∃ i u, s.halted = none ∧ s.remaining = 0 ∧ fetch s = some i ∧ exec i s = .next u ∧ t = u.tick) := by
  unfold step at h
  split at h
  · rename_i e he
    cases h
    exact .inl ⟨e, he, rfl⟩
  · rename_i hn
    split at h
    · rename_i hr
      unfold dispatchStep at h
      split at h
      · rename_i hf
        cases h
        exact .inr (.inr (.inl ⟨hn, hr, hf, rfl⟩))
      · rename_i i hf
        obtain ⟨u, hu, -⟩ := exec_tame i s
        rw [hu] at h
        cases h
        exact .inr (.inr (.inr ⟨i, u, hn, hr, hf, hu, rfl⟩))
    · rename_i hr
      cases h
      exact .inr (.inl ⟨hn, Nat.pos_of_ne_zero hr, rfl⟩)

/-- A fetch fails exactly when the opcode byte has no table entry (30 R96): three bytes are never too few. -/
theorem fetch_none_iff (s : State) : fetch s = none ↔ lookupOpcode (s.read s.PC) = none := by
  unfold fetch fetchBytes decode
  cases h : lookupOpcode (s.read s.PC) with
  | none => simp [h]
  | some r => cases hf : r.mode.format <;> simp [h, hf]

/-- Step always answers a next state (60 R382). -/
theorem step_next (s : State) : ∃ t, step s = .next t := by
  unfold step dispatchStep
  split
  · exact ⟨_, rfl⟩
  · split
    · split
      · exact ⟨_, rfl⟩
      · rename_i i _
        obtain ⟨t, ht, -⟩ := exec_tame i s
        exact ⟨_, by rw [ht]⟩
    · exact ⟨_, rfl⟩

/-- A run takes its first step and goes on from there. -/
theorem run_succ {s t : State} (h : step s = .next t) (n : Nat) :
    Sys2Proof.core.run (n + 1) s = Sys2Proof.core.run n t := by
  have h' : Sys2Proof.core.step s = .next t := h
  simp only [Host.Core.run, h']

end Sys2Proof.Machine
end

