-- ==== Sys2Proof/Laws/PerInstr.lean ====
section
/-! SUPPORT. Facts about every instruction as syntax, one lemma per constructor. `TableRow`: the opcode table has a row at the
instruction's opcode byte, that row has the instruction's mnemonic, mode and length, and the encoding has that length
(30 R90, R94). -/

namespace Sys2Proof.Laws.TableRow

/-- The instruction's opcode looks up a row that names it, and its encoding is as long as its mode says. -/
def Statement (i : Instr) : Prop :=
  ∃ r, lookupOpcode i.opcode = some r ∧ r.opcode = i.opcode ∧ r.mnemonic = i.mnemonic ∧ r.mode = i.mode ∧
    (encode i).length = i.size

theorem brk : Statement (.brk) :=
  ⟨⟨0x00#8, .BRK, .imp, 7, false, fun _ _ => .brk⟩, show lookupOpcode 0x00#8 = some _ from rfl, rfl, rfl, rfl, rfl⟩
theorem oraXInd (b : Byte) : Statement (.oraXInd b) :=
  ⟨⟨0x01#8, .ORA, .xInd, 6, false, fun b1 _ => .oraXInd b1⟩, show lookupOpcode 0x01#8 = some _ from rfl, rfl, rfl, rfl, rfl⟩
theorem oraZp (b : Byte) : Statement (.oraZp b) :=
  ⟨⟨0x05#8, .ORA, .zp, 3, false, fun b1 _ => .oraZp b1⟩, show lookupOpcode 0x05#8 = some _ from rfl, rfl, rfl, rfl, rfl⟩
theorem aslZp (b : Byte) : Statement (.aslZp b) :=
  ⟨⟨0x06#8, .ASL, .zp, 5, false, fun b1 _ => .aslZp b1⟩, show lookupOpcode 0x06#8 = some _ from rfl, rfl, rfl, rfl, rfl⟩
theorem php : Statement (.php) :=
  ⟨⟨0x08#8, .PHP, .imp, 3, false, fun _ _ => .php⟩, show lookupOpcode 0x08#8 = some _ from rfl, rfl, rfl, rfl, rfl⟩
theorem oraImm (b : Byte) : Statement (.oraImm b) :=
  ⟨⟨0x09#8, .ORA, .imm, 2, false, fun b1 _ => .oraImm b1⟩, show lookupOpcode 0x09#8 = some _ from rfl, rfl, rfl, rfl, rfl⟩
theorem aslAcc : Statement (.aslAcc) :=
  ⟨⟨0x0A#8, .ASL, .acc, 2, false, fun _ _ => .aslAcc⟩, show lookupOpcode 0x0A#8 = some _ from rfl, rfl, rfl, rfl, rfl⟩
theorem oraAbs (w : Address) : Statement (.oraAbs w) :=
  ⟨⟨0x0D#8, .ORA, .abs, 4, false, fun b1 b2 => .oraAbs (wordOf b2 b1)⟩, show lookupOpcode 0x0D#8 = some _ from rfl, rfl, rfl, rfl, rfl⟩
theorem aslAbs (w : Address) : Statement (.aslAbs w) :=
  ⟨⟨0x0E#8, .ASL, .abs, 6, false, fun b1 b2 => .aslAbs (wordOf b2 b1)⟩, show lookupOpcode 0x0E#8 = some _ from rfl, rfl, rfl, rfl, rfl⟩
theorem bpl (d : Int) : Statement (.bpl d) :=
  ⟨⟨0x10#8, .BPL, .rel, 2, false, fun b1 _ => .bpl (sext8 b1)⟩, show lookupOpcode 0x10#8 = some _ from rfl, rfl, rfl, rfl, rfl⟩
theorem oraIndY (b : Byte) : Statement (.oraIndY b) :=
  ⟨⟨0x11#8, .ORA, .indY, 5, true, fun b1 _ => .oraIndY b1⟩, show lookupOpcode 0x11#8 = some _ from rfl, rfl, rfl, rfl, rfl⟩
theorem oraZpX (b : Byte) : Statement (.oraZpX b) :=
  ⟨⟨0x15#8, .ORA, .zpX, 4, false, fun b1 _ => .oraZpX b1⟩, show lookupOpcode 0x15#8 = some _ from rfl, rfl, rfl, rfl, rfl⟩
theorem aslZpX (b : Byte) : Statement (.aslZpX b) :=
  ⟨⟨0x16#8, .ASL, .zpX, 6, false, fun b1 _ => .aslZpX b1⟩, show lookupOpcode 0x16#8 = some _ from rfl, rfl, rfl, rfl, rfl⟩
theorem clc : Statement (.clc) :=
  ⟨⟨0x18#8, .CLC, .imp, 2, false, fun _ _ => .clc⟩, show lookupOpcode 0x18#8 = some _ from rfl, rfl, rfl, rfl, rfl⟩
theorem oraAbsY (w : Address) : Statement (.oraAbsY w) :=
  ⟨⟨0x19#8, .ORA, .absY, 4, true, fun b1 b2 => .oraAbsY (wordOf b2 b1)⟩, show lookupOpcode 0x19#8 = some _ from rfl, rfl, rfl, rfl, rfl⟩
theorem oraAbsX (w : Address) : Statement (.oraAbsX w) :=
  ⟨⟨0x1D#8, .ORA, .absX, 4, true, fun b1 b2 => .oraAbsX (wordOf b2 b1)⟩, show lookupOpcode 0x1D#8 = some _ from rfl, rfl, rfl, rfl, rfl⟩
theorem aslAbsX (w : Address) : Statement (.aslAbsX w) :=
  ⟨⟨0x1E#8, .ASL, .absX, 7, false, fun b1 b2 => .aslAbsX (wordOf b2 b1)⟩, show lookupOpcode 0x1E#8 = some _ from rfl, rfl, rfl, rfl, rfl⟩
theorem jsr (w : Address) : Statement (.jsr w) :=
  ⟨⟨0x20#8, .JSR, .abs, 6, false, fun b1 b2 => .jsr (wordOf b2 b1)⟩, show lookupOpcode 0x20#8 = some _ from rfl, rfl, rfl, rfl, rfl⟩
theorem andXInd (b : Byte) : Statement (.andXInd b) :=
  ⟨⟨0x21#8, .AND, .xInd, 6, false, fun b1 _ => .andXInd b1⟩, show lookupOpcode 0x21#8 = some _ from rfl, rfl, rfl, rfl, rfl⟩
theorem bitZp (b : Byte) : Statement (.bitZp b) :=
  ⟨⟨0x24#8, .BIT, .zp, 3, false, fun b1 _ => .bitZp b1⟩, show lookupOpcode 0x24#8 = some _ from rfl, rfl, rfl, rfl, rfl⟩
theorem andZp (b : Byte) : Statement (.andZp b) :=
  ⟨⟨0x25#8, .AND, .zp, 3, false, fun b1 _ => .andZp b1⟩, show lookupOpcode 0x25#8 = some _ from rfl, rfl, rfl, rfl, rfl⟩
theorem rolZp (b : Byte) : Statement (.rolZp b) :=
  ⟨⟨0x26#8, .ROL, .zp, 5, false, fun b1 _ => .rolZp b1⟩, show lookupOpcode 0x26#8 = some _ from rfl, rfl, rfl, rfl, rfl⟩
theorem plp : Statement (.plp) :=
  ⟨⟨0x28#8, .PLP, .imp, 4, false, fun _ _ => .plp⟩, show lookupOpcode 0x28#8 = some _ from rfl, rfl, rfl, rfl, rfl⟩
theorem andImm (b : Byte) : Statement (.andImm b) :=
  ⟨⟨0x29#8, .AND, .imm, 2, false, fun b1 _ => .andImm b1⟩, show lookupOpcode 0x29#8 = some _ from rfl, rfl, rfl, rfl, rfl⟩
theorem rolAcc : Statement (.rolAcc) :=
  ⟨⟨0x2A#8, .ROL, .acc, 2, false, fun _ _ => .rolAcc⟩, show lookupOpcode 0x2A#8 = some _ from rfl, rfl, rfl, rfl, rfl⟩
theorem bitAbs (w : Address) : Statement (.bitAbs w) :=
  ⟨⟨0x2C#8, .BIT, .abs, 4, false, fun b1 b2 => .bitAbs (wordOf b2 b1)⟩, show lookupOpcode 0x2C#8 = some _ from rfl, rfl, rfl, rfl, rfl⟩
theorem andAbs (w : Address) : Statement (.andAbs w) :=
  ⟨⟨0x2D#8, .AND, .abs, 4, false, fun b1 b2 => .andAbs (wordOf b2 b1)⟩, show lookupOpcode 0x2D#8 = some _ from rfl, rfl, rfl, rfl, rfl⟩
theorem rolAbs (w : Address) : Statement (.rolAbs w) :=
  ⟨⟨0x2E#8, .ROL, .abs, 6, false, fun b1 b2 => .rolAbs (wordOf b2 b1)⟩, show lookupOpcode 0x2E#8 = some _ from rfl, rfl, rfl, rfl, rfl⟩
theorem bmi (d : Int) : Statement (.bmi d) :=
  ⟨⟨0x30#8, .BMI, .rel, 2, false, fun b1 _ => .bmi (sext8 b1)⟩, show lookupOpcode 0x30#8 = some _ from rfl, rfl, rfl, rfl, rfl⟩
theorem andIndY (b : Byte) : Statement (.andIndY b) :=
  ⟨⟨0x31#8, .AND, .indY, 5, true, fun b1 _ => .andIndY b1⟩, show lookupOpcode 0x31#8 = some _ from rfl, rfl, rfl, rfl, rfl⟩
theorem andZpX (b : Byte) : Statement (.andZpX b) :=
  ⟨⟨0x35#8, .AND, .zpX, 4, false, fun b1 _ => .andZpX b1⟩, show lookupOpcode 0x35#8 = some _ from rfl, rfl, rfl, rfl, rfl⟩
theorem rolZpX (b : Byte) : Statement (.rolZpX b) :=
  ⟨⟨0x36#8, .ROL, .zpX, 6, false, fun b1 _ => .rolZpX b1⟩, show lookupOpcode 0x36#8 = some _ from rfl, rfl, rfl, rfl, rfl⟩
theorem sec : Statement (.sec) :=
  ⟨⟨0x38#8, .SEC, .imp, 2, false, fun _ _ => .sec⟩, show lookupOpcode 0x38#8 = some _ from rfl, rfl, rfl, rfl, rfl⟩
theorem andAbsY (w : Address) : Statement (.andAbsY w) :=
  ⟨⟨0x39#8, .AND, .absY, 4, true, fun b1 b2 => .andAbsY (wordOf b2 b1)⟩, show lookupOpcode 0x39#8 = some _ from rfl, rfl, rfl, rfl, rfl⟩
theorem andAbsX (w : Address) : Statement (.andAbsX w) :=
  ⟨⟨0x3D#8, .AND, .absX, 4, true, fun b1 b2 => .andAbsX (wordOf b2 b1)⟩, show lookupOpcode 0x3D#8 = some _ from rfl, rfl, rfl, rfl, rfl⟩
theorem rolAbsX (w : Address) : Statement (.rolAbsX w) :=
  ⟨⟨0x3E#8, .ROL, .absX, 7, false, fun b1 b2 => .rolAbsX (wordOf b2 b1)⟩, show lookupOpcode 0x3E#8 = some _ from rfl, rfl, rfl, rfl, rfl⟩
theorem rti : Statement (.rti) :=
  ⟨⟨0x40#8, .RTI, .imp, 6, false, fun _ _ => .rti⟩, show lookupOpcode 0x40#8 = some _ from rfl, rfl, rfl, rfl, rfl⟩
theorem eorXInd (b : Byte) : Statement (.eorXInd b) :=
  ⟨⟨0x41#8, .EOR, .xInd, 6, false, fun b1 _ => .eorXInd b1⟩, show lookupOpcode 0x41#8 = some _ from rfl, rfl, rfl, rfl, rfl⟩
theorem eorZp (b : Byte) : Statement (.eorZp b) :=
  ⟨⟨0x45#8, .EOR, .zp, 3, false, fun b1 _ => .eorZp b1⟩, show lookupOpcode 0x45#8 = some _ from rfl, rfl, rfl, rfl, rfl⟩
theorem lsrZp (b : Byte) : Statement (.lsrZp b) :=
  ⟨⟨0x46#8, .LSR, .zp, 5, false, fun b1 _ => .lsrZp b1⟩, show lookupOpcode 0x46#8 = some _ from rfl, rfl, rfl, rfl, rfl⟩
theorem pha : Statement (.pha) :=
  ⟨⟨0x48#8, .PHA, .imp, 3, false, fun _ _ => .pha⟩, show lookupOpcode 0x48#8 = some _ from rfl, rfl, rfl, rfl, rfl⟩
theorem eorImm (b : Byte) : Statement (.eorImm b) :=
  ⟨⟨0x49#8, .EOR, .imm, 2, false, fun b1 _ => .eorImm b1⟩, show lookupOpcode 0x49#8 = some _ from rfl, rfl, rfl, rfl, rfl⟩
theorem lsrAcc : Statement (.lsrAcc) :=
  ⟨⟨0x4A#8, .LSR, .acc, 2, false, fun _ _ => .lsrAcc⟩, show lookupOpcode 0x4A#8 = some _ from rfl, rfl, rfl, rfl, rfl⟩
theorem jmpAbs (w : Address) : Statement (.jmpAbs w) :=
  ⟨⟨0x4C#8, .JMP, .abs, 3, false, fun b1 b2 => .jmpAbs (wordOf b2 b1)⟩, show lookupOpcode 0x4C#8 = some _ from rfl, rfl, rfl, rfl, rfl⟩
theorem eorAbs (w : Address) : Statement (.eorAbs w) :=
  ⟨⟨0x4D#8, .EOR, .abs, 4, false, fun b1 b2 => .eorAbs (wordOf b2 b1)⟩, show lookupOpcode 0x4D#8 = some _ from rfl, rfl, rfl, rfl, rfl⟩
theorem lsrAbs (w : Address) : Statement (.lsrAbs w) :=
  ⟨⟨0x4E#8, .LSR, .abs, 6, false, fun b1 b2 => .lsrAbs (wordOf b2 b1)⟩, show lookupOpcode 0x4E#8 = some _ from rfl, rfl, rfl, rfl, rfl⟩
theorem bvc (d : Int) : Statement (.bvc d) :=
  ⟨⟨0x50#8, .BVC, .rel, 2, false, fun b1 _ => .bvc (sext8 b1)⟩, show lookupOpcode 0x50#8 = some _ from rfl, rfl, rfl, rfl, rfl⟩
theorem eorIndY (b : Byte) : Statement (.eorIndY b) :=
  ⟨⟨0x51#8, .EOR, .indY, 5, true, fun b1 _ => .eorIndY b1⟩, show lookupOpcode 0x51#8 = some _ from rfl, rfl, rfl, rfl, rfl⟩
theorem eorZpX (b : Byte) : Statement (.eorZpX b) :=
  ⟨⟨0x55#8, .EOR, .zpX, 4, false, fun b1 _ => .eorZpX b1⟩, show lookupOpcode 0x55#8 = some _ from rfl, rfl, rfl, rfl, rfl⟩
theorem lsrZpX (b : Byte) : Statement (.lsrZpX b) :=
  ⟨⟨0x56#8, .LSR, .zpX, 6, false, fun b1 _ => .lsrZpX b1⟩, show lookupOpcode 0x56#8 = some _ from rfl, rfl, rfl, rfl, rfl⟩
theorem cli : Statement (.cli) :=
  ⟨⟨0x58#8, .CLI, .imp, 2, false, fun _ _ => .cli⟩, show lookupOpcode 0x58#8 = some _ from rfl, rfl, rfl, rfl, rfl⟩
theorem eorAbsY (w : Address) : Statement (.eorAbsY w) :=
  ⟨⟨0x59#8, .EOR, .absY, 4, true, fun b1 b2 => .eorAbsY (wordOf b2 b1)⟩, show lookupOpcode 0x59#8 = some _ from rfl, rfl, rfl, rfl, rfl⟩
theorem eorAbsX (w : Address) : Statement (.eorAbsX w) :=
  ⟨⟨0x5D#8, .EOR, .absX, 4, true, fun b1 b2 => .eorAbsX (wordOf b2 b1)⟩, show lookupOpcode 0x5D#8 = some _ from rfl, rfl, rfl, rfl, rfl⟩
theorem lsrAbsX (w : Address) : Statement (.lsrAbsX w) :=
  ⟨⟨0x5E#8, .LSR, .absX, 7, false, fun b1 b2 => .lsrAbsX (wordOf b2 b1)⟩, show lookupOpcode 0x5E#8 = some _ from rfl, rfl, rfl, rfl, rfl⟩
theorem rts : Statement (.rts) :=
  ⟨⟨0x60#8, .RTS, .imp, 6, false, fun _ _ => .rts⟩, show lookupOpcode 0x60#8 = some _ from rfl, rfl, rfl, rfl, rfl⟩
theorem adcXInd (b : Byte) : Statement (.adcXInd b) :=
  ⟨⟨0x61#8, .ADC, .xInd, 6, false, fun b1 _ => .adcXInd b1⟩, show lookupOpcode 0x61#8 = some _ from rfl, rfl, rfl, rfl, rfl⟩
theorem adcZp (b : Byte) : Statement (.adcZp b) :=
  ⟨⟨0x65#8, .ADC, .zp, 3, false, fun b1 _ => .adcZp b1⟩, show lookupOpcode 0x65#8 = some _ from rfl, rfl, rfl, rfl, rfl⟩
theorem rorZp (b : Byte) : Statement (.rorZp b) :=
  ⟨⟨0x66#8, .ROR, .zp, 5, false, fun b1 _ => .rorZp b1⟩, show lookupOpcode 0x66#8 = some _ from rfl, rfl, rfl, rfl, rfl⟩
theorem pla : Statement (.pla) :=
  ⟨⟨0x68#8, .PLA, .imp, 4, false, fun _ _ => .pla⟩, show lookupOpcode 0x68#8 = some _ from rfl, rfl, rfl, rfl, rfl⟩
theorem adcImm (b : Byte) : Statement (.adcImm b) :=
  ⟨⟨0x69#8, .ADC, .imm, 2, false, fun b1 _ => .adcImm b1⟩, show lookupOpcode 0x69#8 = some _ from rfl, rfl, rfl, rfl, rfl⟩
theorem rorAcc : Statement (.rorAcc) :=
  ⟨⟨0x6A#8, .ROR, .acc, 2, false, fun _ _ => .rorAcc⟩, show lookupOpcode 0x6A#8 = some _ from rfl, rfl, rfl, rfl, rfl⟩
theorem jmpInd (w : Address) : Statement (.jmpInd w) :=
  ⟨⟨0x6C#8, .JMP, .ind, 5, false, fun b1 b2 => .jmpInd (wordOf b2 b1)⟩, show lookupOpcode 0x6C#8 = some _ from rfl, rfl, rfl, rfl, rfl⟩
theorem adcAbs (w : Address) : Statement (.adcAbs w) :=
  ⟨⟨0x6D#8, .ADC, .abs, 4, false, fun b1 b2 => .adcAbs (wordOf b2 b1)⟩, show lookupOpcode 0x6D#8 = some _ from rfl, rfl, rfl, rfl, rfl⟩
theorem rorAbs (w : Address) : Statement (.rorAbs w) :=
  ⟨⟨0x6E#8, .ROR, .abs, 6, false, fun b1 b2 => .rorAbs (wordOf b2 b1)⟩, show lookupOpcode 0x6E#8 = some _ from rfl, rfl, rfl, rfl, rfl⟩
theorem bvs (d : Int) : Statement (.bvs d) :=
  ⟨⟨0x70#8, .BVS, .rel, 2, false, fun b1 _ => .bvs (sext8 b1)⟩, show lookupOpcode 0x70#8 = some _ from rfl, rfl, rfl, rfl, rfl⟩
theorem adcIndY (b : Byte) : Statement (.adcIndY b) :=
  ⟨⟨0x71#8, .ADC, .indY, 5, true, fun b1 _ => .adcIndY b1⟩, show lookupOpcode 0x71#8 = some _ from rfl, rfl, rfl, rfl, rfl⟩
theorem adcZpX (b : Byte) : Statement (.adcZpX b) :=
  ⟨⟨0x75#8, .ADC, .zpX, 4, false, fun b1 _ => .adcZpX b1⟩, show lookupOpcode 0x75#8 = some _ from rfl, rfl, rfl, rfl, rfl⟩
theorem rorZpX (b : Byte) : Statement (.rorZpX b) :=
  ⟨⟨0x76#8, .ROR, .zpX, 6, false, fun b1 _ => .rorZpX b1⟩, show lookupOpcode 0x76#8 = some _ from rfl, rfl, rfl, rfl, rfl⟩
theorem sei : Statement (.sei) :=
  ⟨⟨0x78#8, .SEI, .imp, 2, false, fun _ _ => .sei⟩, show lookupOpcode 0x78#8 = some _ from rfl, rfl, rfl, rfl, rfl⟩
theorem adcAbsY (w : Address) : Statement (.adcAbsY w) :=
  ⟨⟨0x79#8, .ADC, .absY, 4, true, fun b1 b2 => .adcAbsY (wordOf b2 b1)⟩, show lookupOpcode 0x79#8 = some _ from rfl, rfl, rfl, rfl, rfl⟩
theorem adcAbsX (w : Address) : Statement (.adcAbsX w) :=
  ⟨⟨0x7D#8, .ADC, .absX, 4, true, fun b1 b2 => .adcAbsX (wordOf b2 b1)⟩, show lookupOpcode 0x7D#8 = some _ from rfl, rfl, rfl, rfl, rfl⟩
theorem rorAbsX (w : Address) : Statement (.rorAbsX w) :=
  ⟨⟨0x7E#8, .ROR, .absX, 7, false, fun b1 b2 => .rorAbsX (wordOf b2 b1)⟩, show lookupOpcode 0x7E#8 = some _ from rfl, rfl, rfl, rfl, rfl⟩
theorem staXInd (b : Byte) : Statement (.staXInd b) :=
  ⟨⟨0x81#8, .STA, .xInd, 6, false, fun b1 _ => .staXInd b1⟩, show lookupOpcode 0x81#8 = some _ from rfl, rfl, rfl, rfl, rfl⟩
theorem styZp (b : Byte) : Statement (.styZp b) :=
  ⟨⟨0x84#8, .STY, .zp, 3, false, fun b1 _ => .styZp b1⟩, show lookupOpcode 0x84#8 = some _ from rfl, rfl, rfl, rfl, rfl⟩
theorem staZp (b : Byte) : Statement (.staZp b) :=
  ⟨⟨0x85#8, .STA, .zp, 3, false, fun b1 _ => .staZp b1⟩, show lookupOpcode 0x85#8 = some _ from rfl, rfl, rfl, rfl, rfl⟩
theorem stxZp (b : Byte) : Statement (.stxZp b) :=
  ⟨⟨0x86#8, .STX, .zp, 3, false, fun b1 _ => .stxZp b1⟩, show lookupOpcode 0x86#8 = some _ from rfl, rfl, rfl, rfl, rfl⟩
theorem dey : Statement (.dey) :=
  ⟨⟨0x88#8, .DEY, .imp, 2, false, fun _ _ => .dey⟩, show lookupOpcode 0x88#8 = some _ from rfl, rfl, rfl, rfl, rfl⟩
theorem txa : Statement (.txa) :=
  ⟨⟨0x8A#8, .TXA, .imp, 2, false, fun _ _ => .txa⟩, show lookupOpcode 0x8A#8 = some _ from rfl, rfl, rfl, rfl, rfl⟩
theorem styAbs (w : Address) : Statement (.styAbs w) :=
  ⟨⟨0x8C#8, .STY, .abs, 4, false, fun b1 b2 => .styAbs (wordOf b2 b1)⟩, show lookupOpcode 0x8C#8 = some _ from rfl, rfl, rfl, rfl, rfl⟩
theorem staAbs (w : Address) : Statement (.staAbs w) :=
  ⟨⟨0x8D#8, .STA, .abs, 4, false, fun b1 b2 => .staAbs (wordOf b2 b1)⟩, show lookupOpcode 0x8D#8 = some _ from rfl, rfl, rfl, rfl, rfl⟩
theorem stxAbs (w : Address) : Statement (.stxAbs w) :=
  ⟨⟨0x8E#8, .STX, .abs, 4, false, fun b1 b2 => .stxAbs (wordOf b2 b1)⟩, show lookupOpcode 0x8E#8 = some _ from rfl, rfl, rfl, rfl, rfl⟩
theorem bcc (d : Int) : Statement (.bcc d) :=
  ⟨⟨0x90#8, .BCC, .rel, 2, false, fun b1 _ => .bcc (sext8 b1)⟩, show lookupOpcode 0x90#8 = some _ from rfl, rfl, rfl, rfl, rfl⟩
theorem staIndY (b : Byte) : Statement (.staIndY b) :=
  ⟨⟨0x91#8, .STA, .indY, 6, false, fun b1 _ => .staIndY b1⟩, show lookupOpcode 0x91#8 = some _ from rfl, rfl, rfl, rfl, rfl⟩
theorem styZpX (b : Byte) : Statement (.styZpX b) :=
  ⟨⟨0x94#8, .STY, .zpX, 4, false, fun b1 _ => .styZpX b1⟩, show lookupOpcode 0x94#8 = some _ from rfl, rfl, rfl, rfl, rfl⟩
theorem staZpX (b : Byte) : Statement (.staZpX b) :=
  ⟨⟨0x95#8, .STA, .zpX, 4, false, fun b1 _ => .staZpX b1⟩, show lookupOpcode 0x95#8 = some _ from rfl, rfl, rfl, rfl, rfl⟩
theorem stxZpY (b : Byte) : Statement (.stxZpY b) :=
  ⟨⟨0x96#8, .STX, .zpY, 4, false, fun b1 _ => .stxZpY b1⟩, show lookupOpcode 0x96#8 = some _ from rfl, rfl, rfl, rfl, rfl⟩
theorem tya : Statement (.tya) :=
  ⟨⟨0x98#8, .TYA, .imp, 2, false, fun _ _ => .tya⟩, show lookupOpcode 0x98#8 = some _ from rfl, rfl, rfl, rfl, rfl⟩
theorem staAbsY (w : Address) : Statement (.staAbsY w) :=
  ⟨⟨0x99#8, .STA, .absY, 5, false, fun b1 b2 => .staAbsY (wordOf b2 b1)⟩, show lookupOpcode 0x99#8 = some _ from rfl, rfl, rfl, rfl, rfl⟩
theorem txs : Statement (.txs) :=
  ⟨⟨0x9A#8, .TXS, .imp, 2, false, fun _ _ => .txs⟩, show lookupOpcode 0x9A#8 = some _ from rfl, rfl, rfl, rfl, rfl⟩
theorem staAbsX (w : Address) : Statement (.staAbsX w) :=
  ⟨⟨0x9D#8, .STA, .absX, 5, false, fun b1 b2 => .staAbsX (wordOf b2 b1)⟩, show lookupOpcode 0x9D#8 = some _ from rfl, rfl, rfl, rfl, rfl⟩
theorem ldyImm (b : Byte) : Statement (.ldyImm b) :=
  ⟨⟨0xA0#8, .LDY, .imm, 2, false, fun b1 _ => .ldyImm b1⟩, show lookupOpcode 0xA0#8 = some _ from rfl, rfl, rfl, rfl, rfl⟩
theorem ldaXInd (b : Byte) : Statement (.ldaXInd b) :=
  ⟨⟨0xA1#8, .LDA, .xInd, 6, false, fun b1 _ => .ldaXInd b1⟩, show lookupOpcode 0xA1#8 = some _ from rfl, rfl, rfl, rfl, rfl⟩
theorem ldxImm (b : Byte) : Statement (.ldxImm b) :=
  ⟨⟨0xA2#8, .LDX, .imm, 2, false, fun b1 _ => .ldxImm b1⟩, show lookupOpcode 0xA2#8 = some _ from rfl, rfl, rfl, rfl, rfl⟩
theorem ldyZp (b : Byte) : Statement (.ldyZp b) :=
  ⟨⟨0xA4#8, .LDY, .zp, 3, false, fun b1 _ => .ldyZp b1⟩, show lookupOpcode 0xA4#8 = some _ from rfl, rfl, rfl, rfl, rfl⟩
theorem ldaZp (b : Byte) : Statement (.ldaZp b) :=
  ⟨⟨0xA5#8, .LDA, .zp, 3, false, fun b1 _ => .ldaZp b1⟩, show lookupOpcode 0xA5#8 = some _ from rfl, rfl, rfl, rfl, rfl⟩
theorem ldxZp (b : Byte) : Statement (.ldxZp b) :=
  ⟨⟨0xA6#8, .LDX, .zp, 3, false, fun b1 _ => .ldxZp b1⟩, show lookupOpcode 0xA6#8 = some _ from rfl, rfl, rfl, rfl, rfl⟩
theorem tay : Statement (.tay) :=
  ⟨⟨0xA8#8, .TAY, .imp, 2, false, fun _ _ => .tay⟩, show lookupOpcode 0xA8#8 = some _ from rfl, rfl, rfl, rfl, rfl⟩
theorem ldaImm (b : Byte) : Statement (.ldaImm b) :=
  ⟨⟨0xA9#8, .LDA, .imm, 2, false, fun b1 _ => .ldaImm b1⟩, show lookupOpcode 0xA9#8 = some _ from rfl, rfl, rfl, rfl, rfl⟩
theorem tax : Statement (.tax) :=
  ⟨⟨0xAA#8, .TAX, .imp, 2, false, fun _ _ => .tax⟩, show lookupOpcode 0xAA#8 = some _ from rfl, rfl, rfl, rfl, rfl⟩
theorem ldyAbs (w : Address) : Statement (.ldyAbs w) :=
  ⟨⟨0xAC#8, .LDY, .abs, 4, false, fun b1 b2 => .ldyAbs (wordOf b2 b1)⟩, show lookupOpcode 0xAC#8 = some _ from rfl, rfl, rfl, rfl, rfl⟩
theorem ldaAbs (w : Address) : Statement (.ldaAbs w) :=
  ⟨⟨0xAD#8, .LDA, .abs, 4, false, fun b1 b2 => .ldaAbs (wordOf b2 b1)⟩, show lookupOpcode 0xAD#8 = some _ from rfl, rfl, rfl, rfl, rfl⟩
theorem ldxAbs (w : Address) : Statement (.ldxAbs w) :=
  ⟨⟨0xAE#8, .LDX, .abs, 4, false, fun b1 b2 => .ldxAbs (wordOf b2 b1)⟩, show lookupOpcode 0xAE#8 = some _ from rfl, rfl, rfl, rfl, rfl⟩
theorem bcs (d : Int) : Statement (.bcs d) :=
  ⟨⟨0xB0#8, .BCS, .rel, 2, false, fun b1 _ => .bcs (sext8 b1)⟩, show lookupOpcode 0xB0#8 = some _ from rfl, rfl, rfl, rfl, rfl⟩
theorem ldaIndY (b : Byte) : Statement (.ldaIndY b) :=
  ⟨⟨0xB1#8, .LDA, .indY, 5, true, fun b1 _ => .ldaIndY b1⟩, show lookupOpcode 0xB1#8 = some _ from rfl, rfl, rfl, rfl, rfl⟩
theorem ldyZpX (b : Byte) : Statement (.ldyZpX b) :=
  ⟨⟨0xB4#8, .LDY, .zpX, 4, false, fun b1 _ => .ldyZpX b1⟩, show lookupOpcode 0xB4#8 = some _ from rfl, rfl, rfl, rfl, rfl⟩
theorem ldaZpX (b : Byte) : Statement (.ldaZpX b) :=
  ⟨⟨0xB5#8, .LDA, .zpX, 4, false, fun b1 _ => .ldaZpX b1⟩, show lookupOpcode 0xB5#8 = some _ from rfl, rfl, rfl, rfl, rfl⟩
theorem ldxZpY (b : Byte) : Statement (.ldxZpY b) :=
  ⟨⟨0xB6#8, .LDX, .zpY, 4, false, fun b1 _ => .ldxZpY b1⟩, show lookupOpcode 0xB6#8 = some _ from rfl, rfl, rfl, rfl, rfl⟩
theorem clv : Statement (.clv) :=
  ⟨⟨0xB8#8, .CLV, .imp, 2, false, fun _ _ => .clv⟩, show lookupOpcode 0xB8#8 = some _ from rfl, rfl, rfl, rfl, rfl⟩
theorem ldaAbsY (w : Address) : Statement (.ldaAbsY w) :=
  ⟨⟨0xB9#8, .LDA, .absY, 4, true, fun b1 b2 => .ldaAbsY (wordOf b2 b1)⟩, show lookupOpcode 0xB9#8 = some _ from rfl, rfl, rfl, rfl, rfl⟩
theorem tsx : Statement (.tsx) :=
  ⟨⟨0xBA#8, .TSX, .imp, 2, false, fun _ _ => .tsx⟩, show lookupOpcode 0xBA#8 = some _ from rfl, rfl, rfl, rfl, rfl⟩
theorem ldyAbsX (w : Address) : Statement (.ldyAbsX w) :=
  ⟨⟨0xBC#8, .LDY, .absX, 4, true, fun b1 b2 => .ldyAbsX (wordOf b2 b1)⟩, show lookupOpcode 0xBC#8 = some _ from rfl, rfl, rfl, rfl, rfl⟩
theorem ldaAbsX (w : Address) : Statement (.ldaAbsX w) :=
  ⟨⟨0xBD#8, .LDA, .absX, 4, true, fun b1 b2 => .ldaAbsX (wordOf b2 b1)⟩, show lookupOpcode 0xBD#8 = some _ from rfl, rfl, rfl, rfl, rfl⟩
theorem ldxAbsY (w : Address) : Statement (.ldxAbsY w) :=
  ⟨⟨0xBE#8, .LDX, .absY, 4, true, fun b1 b2 => .ldxAbsY (wordOf b2 b1)⟩, show lookupOpcode 0xBE#8 = some _ from rfl, rfl, rfl, rfl, rfl⟩
theorem cpyImm (b : Byte) : Statement (.cpyImm b) :=
  ⟨⟨0xC0#8, .CPY, .imm, 2, false, fun b1 _ => .cpyImm b1⟩, show lookupOpcode 0xC0#8 = some _ from rfl, rfl, rfl, rfl, rfl⟩
theorem cmpXInd (b : Byte) : Statement (.cmpXInd b) :=
  ⟨⟨0xC1#8, .CMP, .xInd, 6, false, fun b1 _ => .cmpXInd b1⟩, show lookupOpcode 0xC1#8 = some _ from rfl, rfl, rfl, rfl, rfl⟩
theorem cpyZp (b : Byte) : Statement (.cpyZp b) :=
  ⟨⟨0xC4#8, .CPY, .zp, 3, false, fun b1 _ => .cpyZp b1⟩, show lookupOpcode 0xC4#8 = some _ from rfl, rfl, rfl, rfl, rfl⟩
theorem cmpZp (b : Byte) : Statement (.cmpZp b) :=
  ⟨⟨0xC5#8, .CMP, .zp, 3, false, fun b1 _ => .cmpZp b1⟩, show lookupOpcode 0xC5#8 = some _ from rfl, rfl, rfl, rfl, rfl⟩
theorem decZp (b : Byte) : Statement (.decZp b) :=
  ⟨⟨0xC6#8, .DEC, .zp, 5, false, fun b1 _ => .decZp b1⟩, show lookupOpcode 0xC6#8 = some _ from rfl, rfl, rfl, rfl, rfl⟩
theorem iny : Statement (.iny) :=
  ⟨⟨0xC8#8, .INY, .imp, 2, false, fun _ _ => .iny⟩, show lookupOpcode 0xC8#8 = some _ from rfl, rfl, rfl, rfl, rfl⟩
theorem cmpImm (b : Byte) : Statement (.cmpImm b) :=
  ⟨⟨0xC9#8, .CMP, .imm, 2, false, fun b1 _ => .cmpImm b1⟩, show lookupOpcode 0xC9#8 = some _ from rfl, rfl, rfl, rfl, rfl⟩
theorem dex : Statement (.dex) :=
  ⟨⟨0xCA#8, .DEX, .imp, 2, false, fun _ _ => .dex⟩, show lookupOpcode 0xCA#8 = some _ from rfl, rfl, rfl, rfl, rfl⟩
theorem cpyAbs (w : Address) : Statement (.cpyAbs w) :=
  ⟨⟨0xCC#8, .CPY, .abs, 4, false, fun b1 b2 => .cpyAbs (wordOf b2 b1)⟩, show lookupOpcode 0xCC#8 = some _ from rfl, rfl, rfl, rfl, rfl⟩
theorem cmpAbs (w : Address) : Statement (.cmpAbs w) :=
  ⟨⟨0xCD#8, .CMP, .abs, 4, false, fun b1 b2 => .cmpAbs (wordOf b2 b1)⟩, show lookupOpcode 0xCD#8 = some _ from rfl, rfl, rfl, rfl, rfl⟩
theorem decAbs (w : Address) : Statement (.decAbs w) :=
  ⟨⟨0xCE#8, .DEC, .abs, 6, false, fun b1 b2 => .decAbs (wordOf b2 b1)⟩, show lookupOpcode 0xCE#8 = some _ from rfl, rfl, rfl, rfl, rfl⟩
theorem bne (d : Int) : Statement (.bne d) :=
  ⟨⟨0xD0#8, .BNE, .rel, 2, false, fun b1 _ => .bne (sext8 b1)⟩, show lookupOpcode 0xD0#8 = some _ from rfl, rfl, rfl, rfl, rfl⟩
theorem cmpIndY (b : Byte) : Statement (.cmpIndY b) :=
  ⟨⟨0xD1#8, .CMP, .indY, 5, true, fun b1 _ => .cmpIndY b1⟩, show lookupOpcode 0xD1#8 = some _ from rfl, rfl, rfl, rfl, rfl⟩
theorem cmpZpX (b : Byte) : Statement (.cmpZpX b) :=
  ⟨⟨0xD5#8, .CMP, .zpX, 4, false, fun b1 _ => .cmpZpX b1⟩, show lookupOpcode 0xD5#8 = some _ from rfl, rfl, rfl, rfl, rfl⟩
theorem decZpX (b : Byte) : Statement (.decZpX b) :=
  ⟨⟨0xD6#8, .DEC, .zpX, 6, false, fun b1 _ => .decZpX b1⟩, show lookupOpcode 0xD6#8 = some _ from rfl, rfl, rfl, rfl, rfl⟩
theorem cld : Statement (.cld) :=
  ⟨⟨0xD8#8, .CLD, .imp, 2, false, fun _ _ => .cld⟩, show lookupOpcode 0xD8#8 = some _ from rfl, rfl, rfl, rfl, rfl⟩
theorem cmpAbsY (w : Address) : Statement (.cmpAbsY w) :=
  ⟨⟨0xD9#8, .CMP, .absY, 4, true, fun b1 b2 => .cmpAbsY (wordOf b2 b1)⟩, show lookupOpcode 0xD9#8 = some _ from rfl, rfl, rfl, rfl, rfl⟩
theorem cmpAbsX (w : Address) : Statement (.cmpAbsX w) :=
  ⟨⟨0xDD#8, .CMP, .absX, 4, true, fun b1 b2 => .cmpAbsX (wordOf b2 b1)⟩, show lookupOpcode 0xDD#8 = some _ from rfl, rfl, rfl, rfl, rfl⟩
theorem decAbsX (w : Address) : Statement (.decAbsX w) :=
  ⟨⟨0xDE#8, .DEC, .absX, 7, false, fun b1 b2 => .decAbsX (wordOf b2 b1)⟩, show lookupOpcode 0xDE#8 = some _ from rfl, rfl, rfl, rfl, rfl⟩
theorem cpxImm (b : Byte) : Statement (.cpxImm b) :=
  ⟨⟨0xE0#8, .CPX, .imm, 2, false, fun b1 _ => .cpxImm b1⟩, show lookupOpcode 0xE0#8 = some _ from rfl, rfl, rfl, rfl, rfl⟩
theorem sbcXInd (b : Byte) : Statement (.sbcXInd b) :=
  ⟨⟨0xE1#8, .SBC, .xInd, 6, false, fun b1 _ => .sbcXInd b1⟩, show lookupOpcode 0xE1#8 = some _ from rfl, rfl, rfl, rfl, rfl⟩
theorem cpxZp (b : Byte) : Statement (.cpxZp b) :=
  ⟨⟨0xE4#8, .CPX, .zp, 3, false, fun b1 _ => .cpxZp b1⟩, show lookupOpcode 0xE4#8 = some _ from rfl, rfl, rfl, rfl, rfl⟩
theorem sbcZp (b : Byte) : Statement (.sbcZp b) :=
  ⟨⟨0xE5#8, .SBC, .zp, 3, false, fun b1 _ => .sbcZp b1⟩, show lookupOpcode 0xE5#8 = some _ from rfl, rfl, rfl, rfl, rfl⟩
theorem incZp (b : Byte) : Statement (.incZp b) :=
  ⟨⟨0xE6#8, .INC, .zp, 5, false, fun b1 _ => .incZp b1⟩, show lookupOpcode 0xE6#8 = some _ from rfl, rfl, rfl, rfl, rfl⟩
theorem inx : Statement (.inx) :=
  ⟨⟨0xE8#8, .INX, .imp, 2, false, fun _ _ => .inx⟩, show lookupOpcode 0xE8#8 = some _ from rfl, rfl, rfl, rfl, rfl⟩
theorem sbcImm (b : Byte) : Statement (.sbcImm b) :=
  ⟨⟨0xE9#8, .SBC, .imm, 2, false, fun b1 _ => .sbcImm b1⟩, show lookupOpcode 0xE9#8 = some _ from rfl, rfl, rfl, rfl, rfl⟩
theorem nop : Statement (.nop) :=
  ⟨⟨0xEA#8, .NOP, .imp, 2, false, fun _ _ => .nop⟩, show lookupOpcode 0xEA#8 = some _ from rfl, rfl, rfl, rfl, rfl⟩
theorem cpxAbs (w : Address) : Statement (.cpxAbs w) :=
  ⟨⟨0xEC#8, .CPX, .abs, 4, false, fun b1 b2 => .cpxAbs (wordOf b2 b1)⟩, show lookupOpcode 0xEC#8 = some _ from rfl, rfl, rfl, rfl, rfl⟩
theorem sbcAbs (w : Address) : Statement (.sbcAbs w) :=
  ⟨⟨0xED#8, .SBC, .abs, 4, false, fun b1 b2 => .sbcAbs (wordOf b2 b1)⟩, show lookupOpcode 0xED#8 = some _ from rfl, rfl, rfl, rfl, rfl⟩
theorem incAbs (w : Address) : Statement (.incAbs w) :=
  ⟨⟨0xEE#8, .INC, .abs, 6, false, fun b1 b2 => .incAbs (wordOf b2 b1)⟩, show lookupOpcode 0xEE#8 = some _ from rfl, rfl, rfl, rfl, rfl⟩
theorem beq (d : Int) : Statement (.beq d) :=
  ⟨⟨0xF0#8, .BEQ, .rel, 2, false, fun b1 _ => .beq (sext8 b1)⟩, show lookupOpcode 0xF0#8 = some _ from rfl, rfl, rfl, rfl, rfl⟩
theorem sbcIndY (b : Byte) : Statement (.sbcIndY b) :=
  ⟨⟨0xF1#8, .SBC, .indY, 5, true, fun b1 _ => .sbcIndY b1⟩, show lookupOpcode 0xF1#8 = some _ from rfl, rfl, rfl, rfl, rfl⟩
theorem sbcZpX (b : Byte) : Statement (.sbcZpX b) :=
  ⟨⟨0xF5#8, .SBC, .zpX, 4, false, fun b1 _ => .sbcZpX b1⟩, show lookupOpcode 0xF5#8 = some _ from rfl, rfl, rfl, rfl, rfl⟩
theorem incZpX (b : Byte) : Statement (.incZpX b) :=
  ⟨⟨0xF6#8, .INC, .zpX, 6, false, fun b1 _ => .incZpX b1⟩, show lookupOpcode 0xF6#8 = some _ from rfl, rfl, rfl, rfl, rfl⟩
theorem sed : Statement (.sed) :=
  ⟨⟨0xF8#8, .SED, .imp, 2, false, fun _ _ => .sed⟩, show lookupOpcode 0xF8#8 = some _ from rfl, rfl, rfl, rfl, rfl⟩
theorem sbcAbsY (w : Address) : Statement (.sbcAbsY w) :=
  ⟨⟨0xF9#8, .SBC, .absY, 4, true, fun b1 b2 => .sbcAbsY (wordOf b2 b1)⟩, show lookupOpcode 0xF9#8 = some _ from rfl, rfl, rfl, rfl, rfl⟩
theorem sbcAbsX (w : Address) : Statement (.sbcAbsX w) :=
  ⟨⟨0xFD#8, .SBC, .absX, 4, true, fun b1 b2 => .sbcAbsX (wordOf b2 b1)⟩, show lookupOpcode 0xFD#8 = some _ from rfl, rfl, rfl, rfl, rfl⟩
theorem incAbsX (w : Address) : Statement (.incAbsX w) :=
  ⟨⟨0xFE#8, .INC, .absX, 7, false, fun b1 b2 => .incAbsX (wordOf b2 b1)⟩, show lookupOpcode 0xFE#8 = some _ from rfl, rfl, rfl, rfl, rfl⟩

end Sys2Proof.Laws.TableRow
end

