-- ==== Sys2Proof/Laws/Rows.lean ====
section
/-! SUPPORT. What `exec` is on each row of the opcode table: the shared runner, the row's base cycles, its executor and its
operand (30 R94, 46 R343); and each row's base cycles and length in the table. A proof about an instruction starts here and
unfolds neither `exec` nor a meaning. -/

namespace Sys2Proof.Machine

@[simp] theorem exec_brk (s : State) : exec (.brk) s = execOne 7 brkOp s := rfl
@[simp] theorem exec_oraXInd (b : Byte) (s : State) : exec (.oraXInd b) s = execMem 6 oraOp (.xInd b) s := rfl
@[simp] theorem exec_oraZp (b : Byte) (s : State) : exec (.oraZp b) s = execMem 3 oraOp (.zp b) s := rfl
@[simp] theorem exec_aslZp (b : Byte) (s : State) : exec (.aslZp b) s = execMem 5 aslOp (.zp b) s := rfl
@[simp] theorem exec_php (s : State) : exec (.php) s = execOne 3 phpOp s := rfl
@[simp] theorem exec_oraImm (b : Byte) (s : State) : exec (.oraImm b) s = execMem 2 oraOp (.imm b) s := rfl
@[simp] theorem exec_aslAcc (s : State) : exec (.aslAcc) s = execOne 2 (shiftAt aslCore .acc) s := rfl
@[simp] theorem exec_oraAbs (w : Address) (s : State) : exec (.oraAbs w) s = execMem 4 oraOp (.abs w) s := rfl
@[simp] theorem exec_aslAbs (w : Address) (s : State) : exec (.aslAbs w) s = execMem 6 aslOp (.abs w) s := rfl
@[simp] theorem exec_bpl (d : Int) (s : State) : exec (.bpl d) s = runInstr 2 2 (bplOp d) s := rfl
@[simp] theorem exec_oraIndY (b : Byte) (s : State) : exec (.oraIndY b) s = execMem 5 oraOp (.indY b) s := rfl
@[simp] theorem exec_oraZpX (b : Byte) (s : State) : exec (.oraZpX b) s = execMem 4 oraOp (.zpX b) s := rfl
@[simp] theorem exec_aslZpX (b : Byte) (s : State) : exec (.aslZpX b) s = execMem 6 aslOp (.zpX b) s := rfl
@[simp] theorem exec_clc (s : State) : exec (.clc) s = execOne 2 clcOp s := rfl
@[simp] theorem exec_oraAbsY (w : Address) (s : State) : exec (.oraAbsY w) s = execMem 4 oraOp (.absY w) s := rfl
@[simp] theorem exec_oraAbsX (w : Address) (s : State) : exec (.oraAbsX w) s = execMem 4 oraOp (.absX w) s := rfl
@[simp] theorem exec_aslAbsX (w : Address) (s : State) : exec (.aslAbsX w) s = execMem 7 aslOp (.absX w) s := rfl
@[simp] theorem exec_jsr (w : Address) (s : State) : exec (.jsr w) s = execMem 6 jsrOp (.abs w) s := rfl
@[simp] theorem exec_andXInd (b : Byte) (s : State) : exec (.andXInd b) s = execMem 6 andOp (.xInd b) s := rfl
@[simp] theorem exec_bitZp (b : Byte) (s : State) : exec (.bitZp b) s = execMem 3 bitOp (.zp b) s := rfl
@[simp] theorem exec_andZp (b : Byte) (s : State) : exec (.andZp b) s = execMem 3 andOp (.zp b) s := rfl
@[simp] theorem exec_rolZp (b : Byte) (s : State) : exec (.rolZp b) s = execMem 5 rolOp (.zp b) s := rfl
@[simp] theorem exec_plp (s : State) : exec (.plp) s = execOne 4 plpOp s := rfl
@[simp] theorem exec_andImm (b : Byte) (s : State) : exec (.andImm b) s = execMem 2 andOp (.imm b) s := rfl
@[simp] theorem exec_rolAcc (s : State) : exec (.rolAcc) s = execOne 2 (shiftAt rolCore .acc) s := rfl
@[simp] theorem exec_bitAbs (w : Address) (s : State) : exec (.bitAbs w) s = execMem 4 bitOp (.abs w) s := rfl
@[simp] theorem exec_andAbs (w : Address) (s : State) : exec (.andAbs w) s = execMem 4 andOp (.abs w) s := rfl
@[simp] theorem exec_rolAbs (w : Address) (s : State) : exec (.rolAbs w) s = execMem 6 rolOp (.abs w) s := rfl
@[simp] theorem exec_bmi (d : Int) (s : State) : exec (.bmi d) s = runInstr 2 2 (bmiOp d) s := rfl
@[simp] theorem exec_andIndY (b : Byte) (s : State) : exec (.andIndY b) s = execMem 5 andOp (.indY b) s := rfl
@[simp] theorem exec_andZpX (b : Byte) (s : State) : exec (.andZpX b) s = execMem 4 andOp (.zpX b) s := rfl
@[simp] theorem exec_rolZpX (b : Byte) (s : State) : exec (.rolZpX b) s = execMem 6 rolOp (.zpX b) s := rfl
@[simp] theorem exec_sec (s : State) : exec (.sec) s = execOne 2 secOp s := rfl
@[simp] theorem exec_andAbsY (w : Address) (s : State) : exec (.andAbsY w) s = execMem 4 andOp (.absY w) s := rfl
@[simp] theorem exec_andAbsX (w : Address) (s : State) : exec (.andAbsX w) s = execMem 4 andOp (.absX w) s := rfl
@[simp] theorem exec_rolAbsX (w : Address) (s : State) : exec (.rolAbsX w) s = execMem 7 rolOp (.absX w) s := rfl
@[simp] theorem exec_rti (s : State) : exec (.rti) s = execOne 6 rtiOp s := rfl
@[simp] theorem exec_eorXInd (b : Byte) (s : State) : exec (.eorXInd b) s = execMem 6 eorOp (.xInd b) s := rfl
@[simp] theorem exec_eorZp (b : Byte) (s : State) : exec (.eorZp b) s = execMem 3 eorOp (.zp b) s := rfl
@[simp] theorem exec_lsrZp (b : Byte) (s : State) : exec (.lsrZp b) s = execMem 5 lsrOp (.zp b) s := rfl
@[simp] theorem exec_pha (s : State) : exec (.pha) s = execOne 3 phaOp s := rfl
@[simp] theorem exec_eorImm (b : Byte) (s : State) : exec (.eorImm b) s = execMem 2 eorOp (.imm b) s := rfl
@[simp] theorem exec_lsrAcc (s : State) : exec (.lsrAcc) s = execOne 2 (shiftAt lsrCore .acc) s := rfl
@[simp] theorem exec_jmpAbs (w : Address) (s : State) : exec (.jmpAbs w) s = execMem 3 jmpOp (.abs w) s := rfl
@[simp] theorem exec_eorAbs (w : Address) (s : State) : exec (.eorAbs w) s = execMem 4 eorOp (.abs w) s := rfl
@[simp] theorem exec_lsrAbs (w : Address) (s : State) : exec (.lsrAbs w) s = execMem 6 lsrOp (.abs w) s := rfl
@[simp] theorem exec_bvc (d : Int) (s : State) : exec (.bvc d) s = runInstr 2 2 (bvcOp d) s := rfl
@[simp] theorem exec_eorIndY (b : Byte) (s : State) : exec (.eorIndY b) s = execMem 5 eorOp (.indY b) s := rfl
@[simp] theorem exec_eorZpX (b : Byte) (s : State) : exec (.eorZpX b) s = execMem 4 eorOp (.zpX b) s := rfl
@[simp] theorem exec_lsrZpX (b : Byte) (s : State) : exec (.lsrZpX b) s = execMem 6 lsrOp (.zpX b) s := rfl
@[simp] theorem exec_cli (s : State) : exec (.cli) s = execOne 2 cliOp s := rfl
@[simp] theorem exec_eorAbsY (w : Address) (s : State) : exec (.eorAbsY w) s = execMem 4 eorOp (.absY w) s := rfl
@[simp] theorem exec_eorAbsX (w : Address) (s : State) : exec (.eorAbsX w) s = execMem 4 eorOp (.absX w) s := rfl
@[simp] theorem exec_lsrAbsX (w : Address) (s : State) : exec (.lsrAbsX w) s = execMem 7 lsrOp (.absX w) s := rfl
@[simp] theorem exec_rts (s : State) : exec (.rts) s = execOne 6 rtsOp s := rfl
@[simp] theorem exec_adcXInd (b : Byte) (s : State) : exec (.adcXInd b) s = execMem 6 adcOp (.xInd b) s := rfl
@[simp] theorem exec_adcZp (b : Byte) (s : State) : exec (.adcZp b) s = execMem 3 adcOp (.zp b) s := rfl
@[simp] theorem exec_rorZp (b : Byte) (s : State) : exec (.rorZp b) s = execMem 5 rorOp (.zp b) s := rfl
@[simp] theorem exec_pla (s : State) : exec (.pla) s = execOne 4 plaOp s := rfl
@[simp] theorem exec_adcImm (b : Byte) (s : State) : exec (.adcImm b) s = execMem 2 adcOp (.imm b) s := rfl
@[simp] theorem exec_rorAcc (s : State) : exec (.rorAcc) s = execOne 2 (shiftAt rorCore .acc) s := rfl
@[simp] theorem exec_jmpInd (w : Address) (s : State) : exec (.jmpInd w) s = execMem 5 jmpOp (.ind w) s := rfl
@[simp] theorem exec_adcAbs (w : Address) (s : State) : exec (.adcAbs w) s = execMem 4 adcOp (.abs w) s := rfl
@[simp] theorem exec_rorAbs (w : Address) (s : State) : exec (.rorAbs w) s = execMem 6 rorOp (.abs w) s := rfl
@[simp] theorem exec_bvs (d : Int) (s : State) : exec (.bvs d) s = runInstr 2 2 (bvsOp d) s := rfl
@[simp] theorem exec_adcIndY (b : Byte) (s : State) : exec (.adcIndY b) s = execMem 5 adcOp (.indY b) s := rfl
@[simp] theorem exec_adcZpX (b : Byte) (s : State) : exec (.adcZpX b) s = execMem 4 adcOp (.zpX b) s := rfl
@[simp] theorem exec_rorZpX (b : Byte) (s : State) : exec (.rorZpX b) s = execMem 6 rorOp (.zpX b) s := rfl
@[simp] theorem exec_sei (s : State) : exec (.sei) s = execOne 2 seiOp s := rfl
@[simp] theorem exec_adcAbsY (w : Address) (s : State) : exec (.adcAbsY w) s = execMem 4 adcOp (.absY w) s := rfl
@[simp] theorem exec_adcAbsX (w : Address) (s : State) : exec (.adcAbsX w) s = execMem 4 adcOp (.absX w) s := rfl
@[simp] theorem exec_rorAbsX (w : Address) (s : State) : exec (.rorAbsX w) s = execMem 7 rorOp (.absX w) s := rfl
@[simp] theorem exec_staXInd (b : Byte) (s : State) : exec (.staXInd b) s = execMem 6 staOp (.xInd b) s := rfl
@[simp] theorem exec_styZp (b : Byte) (s : State) : exec (.styZp b) s = execMem 3 styOp (.zp b) s := rfl
@[simp] theorem exec_staZp (b : Byte) (s : State) : exec (.staZp b) s = execMem 3 staOp (.zp b) s := rfl
@[simp] theorem exec_stxZp (b : Byte) (s : State) : exec (.stxZp b) s = execMem 3 stxOp (.zp b) s := rfl
@[simp] theorem exec_dey (s : State) : exec (.dey) s = execOne 2 deyOp s := rfl
@[simp] theorem exec_txa (s : State) : exec (.txa) s = execOne 2 txaOp s := rfl
@[simp] theorem exec_styAbs (w : Address) (s : State) : exec (.styAbs w) s = execMem 4 styOp (.abs w) s := rfl
@[simp] theorem exec_staAbs (w : Address) (s : State) : exec (.staAbs w) s = execMem 4 staOp (.abs w) s := rfl
@[simp] theorem exec_stxAbs (w : Address) (s : State) : exec (.stxAbs w) s = execMem 4 stxOp (.abs w) s := rfl
@[simp] theorem exec_bcc (d : Int) (s : State) : exec (.bcc d) s = runInstr 2 2 (bccOp d) s := rfl
@[simp] theorem exec_staIndY (b : Byte) (s : State) : exec (.staIndY b) s = execMem 6 staOp (.indY b) s := rfl
@[simp] theorem exec_styZpX (b : Byte) (s : State) : exec (.styZpX b) s = execMem 4 styOp (.zpX b) s := rfl
@[simp] theorem exec_staZpX (b : Byte) (s : State) : exec (.staZpX b) s = execMem 4 staOp (.zpX b) s := rfl
@[simp] theorem exec_stxZpY (b : Byte) (s : State) : exec (.stxZpY b) s = execMem 4 stxOp (.zpY b) s := rfl
@[simp] theorem exec_tya (s : State) : exec (.tya) s = execOne 2 tyaOp s := rfl
@[simp] theorem exec_staAbsY (w : Address) (s : State) : exec (.staAbsY w) s = execMem 5 staOp (.absY w) s := rfl
@[simp] theorem exec_txs (s : State) : exec (.txs) s = execOne 2 txsOp s := rfl
@[simp] theorem exec_staAbsX (w : Address) (s : State) : exec (.staAbsX w) s = execMem 5 staOp (.absX w) s := rfl
@[simp] theorem exec_ldyImm (b : Byte) (s : State) : exec (.ldyImm b) s = execMem 2 ldyOp (.imm b) s := rfl
@[simp] theorem exec_ldaXInd (b : Byte) (s : State) : exec (.ldaXInd b) s = execMem 6 ldaOp (.xInd b) s := rfl
@[simp] theorem exec_ldxImm (b : Byte) (s : State) : exec (.ldxImm b) s = execMem 2 ldxOp (.imm b) s := rfl
@[simp] theorem exec_ldyZp (b : Byte) (s : State) : exec (.ldyZp b) s = execMem 3 ldyOp (.zp b) s := rfl
@[simp] theorem exec_ldaZp (b : Byte) (s : State) : exec (.ldaZp b) s = execMem 3 ldaOp (.zp b) s := rfl
@[simp] theorem exec_ldxZp (b : Byte) (s : State) : exec (.ldxZp b) s = execMem 3 ldxOp (.zp b) s := rfl
@[simp] theorem exec_tay (s : State) : exec (.tay) s = execOne 2 tayOp s := rfl
@[simp] theorem exec_ldaImm (b : Byte) (s : State) : exec (.ldaImm b) s = execMem 2 ldaOp (.imm b) s := rfl
@[simp] theorem exec_tax (s : State) : exec (.tax) s = execOne 2 taxOp s := rfl
@[simp] theorem exec_ldyAbs (w : Address) (s : State) : exec (.ldyAbs w) s = execMem 4 ldyOp (.abs w) s := rfl
@[simp] theorem exec_ldaAbs (w : Address) (s : State) : exec (.ldaAbs w) s = execMem 4 ldaOp (.abs w) s := rfl
@[simp] theorem exec_ldxAbs (w : Address) (s : State) : exec (.ldxAbs w) s = execMem 4 ldxOp (.abs w) s := rfl
@[simp] theorem exec_bcs (d : Int) (s : State) : exec (.bcs d) s = runInstr 2 2 (bcsOp d) s := rfl
@[simp] theorem exec_ldaIndY (b : Byte) (s : State) : exec (.ldaIndY b) s = execMem 5 ldaOp (.indY b) s := rfl
@[simp] theorem exec_ldyZpX (b : Byte) (s : State) : exec (.ldyZpX b) s = execMem 4 ldyOp (.zpX b) s := rfl
@[simp] theorem exec_ldaZpX (b : Byte) (s : State) : exec (.ldaZpX b) s = execMem 4 ldaOp (.zpX b) s := rfl
@[simp] theorem exec_ldxZpY (b : Byte) (s : State) : exec (.ldxZpY b) s = execMem 4 ldxOp (.zpY b) s := rfl
@[simp] theorem exec_clv (s : State) : exec (.clv) s = execOne 2 clvOp s := rfl
@[simp] theorem exec_ldaAbsY (w : Address) (s : State) : exec (.ldaAbsY w) s = execMem 4 ldaOp (.absY w) s := rfl
@[simp] theorem exec_tsx (s : State) : exec (.tsx) s = execOne 2 tsxOp s := rfl
@[simp] theorem exec_ldyAbsX (w : Address) (s : State) : exec (.ldyAbsX w) s = execMem 4 ldyOp (.absX w) s := rfl
@[simp] theorem exec_ldaAbsX (w : Address) (s : State) : exec (.ldaAbsX w) s = execMem 4 ldaOp (.absX w) s := rfl
@[simp] theorem exec_ldxAbsY (w : Address) (s : State) : exec (.ldxAbsY w) s = execMem 4 ldxOp (.absY w) s := rfl
@[simp] theorem exec_cpyImm (b : Byte) (s : State) : exec (.cpyImm b) s = execMem 2 cpyOp (.imm b) s := rfl
@[simp] theorem exec_cmpXInd (b : Byte) (s : State) : exec (.cmpXInd b) s = execMem 6 cmpOp (.xInd b) s := rfl
@[simp] theorem exec_cpyZp (b : Byte) (s : State) : exec (.cpyZp b) s = execMem 3 cpyOp (.zp b) s := rfl
@[simp] theorem exec_cmpZp (b : Byte) (s : State) : exec (.cmpZp b) s = execMem 3 cmpOp (.zp b) s := rfl
@[simp] theorem exec_decZp (b : Byte) (s : State) : exec (.decZp b) s = execMem 5 decOp (.zp b) s := rfl
@[simp] theorem exec_iny (s : State) : exec (.iny) s = execOne 2 inyOp s := rfl
@[simp] theorem exec_cmpImm (b : Byte) (s : State) : exec (.cmpImm b) s = execMem 2 cmpOp (.imm b) s := rfl
@[simp] theorem exec_dex (s : State) : exec (.dex) s = execOne 2 dexOp s := rfl
@[simp] theorem exec_cpyAbs (w : Address) (s : State) : exec (.cpyAbs w) s = execMem 4 cpyOp (.abs w) s := rfl
@[simp] theorem exec_cmpAbs (w : Address) (s : State) : exec (.cmpAbs w) s = execMem 4 cmpOp (.abs w) s := rfl
@[simp] theorem exec_decAbs (w : Address) (s : State) : exec (.decAbs w) s = execMem 6 decOp (.abs w) s := rfl
@[simp] theorem exec_bne (d : Int) (s : State) : exec (.bne d) s = runInstr 2 2 (bneOp d) s := rfl
@[simp] theorem exec_cmpIndY (b : Byte) (s : State) : exec (.cmpIndY b) s = execMem 5 cmpOp (.indY b) s := rfl
@[simp] theorem exec_cmpZpX (b : Byte) (s : State) : exec (.cmpZpX b) s = execMem 4 cmpOp (.zpX b) s := rfl
@[simp] theorem exec_decZpX (b : Byte) (s : State) : exec (.decZpX b) s = execMem 6 decOp (.zpX b) s := rfl
@[simp] theorem exec_cld (s : State) : exec (.cld) s = execOne 2 cldOp s := rfl
@[simp] theorem exec_cmpAbsY (w : Address) (s : State) : exec (.cmpAbsY w) s = execMem 4 cmpOp (.absY w) s := rfl
@[simp] theorem exec_cmpAbsX (w : Address) (s : State) : exec (.cmpAbsX w) s = execMem 4 cmpOp (.absX w) s := rfl
@[simp] theorem exec_decAbsX (w : Address) (s : State) : exec (.decAbsX w) s = execMem 7 decOp (.absX w) s := rfl
@[simp] theorem exec_cpxImm (b : Byte) (s : State) : exec (.cpxImm b) s = execMem 2 cpxOp (.imm b) s := rfl
@[simp] theorem exec_sbcXInd (b : Byte) (s : State) : exec (.sbcXInd b) s = execMem 6 sbcOp (.xInd b) s := rfl
@[simp] theorem exec_cpxZp (b : Byte) (s : State) : exec (.cpxZp b) s = execMem 3 cpxOp (.zp b) s := rfl
@[simp] theorem exec_sbcZp (b : Byte) (s : State) : exec (.sbcZp b) s = execMem 3 sbcOp (.zp b) s := rfl
@[simp] theorem exec_incZp (b : Byte) (s : State) : exec (.incZp b) s = execMem 5 incOp (.zp b) s := rfl
@[simp] theorem exec_inx (s : State) : exec (.inx) s = execOne 2 inxOp s := rfl
@[simp] theorem exec_sbcImm (b : Byte) (s : State) : exec (.sbcImm b) s = execMem 2 sbcOp (.imm b) s := rfl
@[simp] theorem exec_nop (s : State) : exec (.nop) s = execOne 2 nopOp s := rfl
@[simp] theorem exec_cpxAbs (w : Address) (s : State) : exec (.cpxAbs w) s = execMem 4 cpxOp (.abs w) s := rfl
@[simp] theorem exec_sbcAbs (w : Address) (s : State) : exec (.sbcAbs w) s = execMem 4 sbcOp (.abs w) s := rfl
@[simp] theorem exec_incAbs (w : Address) (s : State) : exec (.incAbs w) s = execMem 6 incOp (.abs w) s := rfl
@[simp] theorem exec_beq (d : Int) (s : State) : exec (.beq d) s = runInstr 2 2 (beqOp d) s := rfl
@[simp] theorem exec_sbcIndY (b : Byte) (s : State) : exec (.sbcIndY b) s = execMem 5 sbcOp (.indY b) s := rfl
@[simp] theorem exec_sbcZpX (b : Byte) (s : State) : exec (.sbcZpX b) s = execMem 4 sbcOp (.zpX b) s := rfl
@[simp] theorem exec_incZpX (b : Byte) (s : State) : exec (.incZpX b) s = execMem 6 incOp (.zpX b) s := rfl
@[simp] theorem exec_sed (s : State) : exec (.sed) s = execOne 2 sedOp s := rfl
@[simp] theorem exec_sbcAbsY (w : Address) (s : State) : exec (.sbcAbsY w) s = execMem 4 sbcOp (.absY w) s := rfl
@[simp] theorem exec_sbcAbsX (w : Address) (s : State) : exec (.sbcAbsX w) s = execMem 4 sbcOp (.absX w) s := rfl
@[simp] theorem exec_incAbsX (w : Address) (s : State) : exec (.incAbsX w) s = execMem 7 incOp (.absX w) s := rfl

/-! The base cycles and the length of each row (30 R90, R94). -/

@[simp] theorem tableBase_brk : Instr.tableBase (.brk) = some 7 := show (lookupOpcode 0x00#8).map OpcodeRow.base = some _ from rfl
@[simp] theorem tableBase_oraXInd (b : Byte) : Instr.tableBase (.oraXInd b) = some 6 := show (lookupOpcode 0x01#8).map OpcodeRow.base = some _ from rfl
@[simp] theorem tableBase_oraZp (b : Byte) : Instr.tableBase (.oraZp b) = some 3 := show (lookupOpcode 0x05#8).map OpcodeRow.base = some _ from rfl
@[simp] theorem tableBase_aslZp (b : Byte) : Instr.tableBase (.aslZp b) = some 5 := show (lookupOpcode 0x06#8).map OpcodeRow.base = some _ from rfl
@[simp] theorem tableBase_php : Instr.tableBase (.php) = some 3 := show (lookupOpcode 0x08#8).map OpcodeRow.base = some _ from rfl
@[simp] theorem tableBase_oraImm (b : Byte) : Instr.tableBase (.oraImm b) = some 2 := show (lookupOpcode 0x09#8).map OpcodeRow.base = some _ from rfl
@[simp] theorem tableBase_aslAcc : Instr.tableBase (.aslAcc) = some 2 := show (lookupOpcode 0x0A#8).map OpcodeRow.base = some _ from rfl
@[simp] theorem tableBase_oraAbs (w : Address) : Instr.tableBase (.oraAbs w) = some 4 := show (lookupOpcode 0x0D#8).map OpcodeRow.base = some _ from rfl
@[simp] theorem tableBase_aslAbs (w : Address) : Instr.tableBase (.aslAbs w) = some 6 := show (lookupOpcode 0x0E#8).map OpcodeRow.base = some _ from rfl
@[simp] theorem tableBase_bpl (d : Int) : Instr.tableBase (.bpl d) = some 2 := show (lookupOpcode 0x10#8).map OpcodeRow.base = some _ from rfl
@[simp] theorem tableBase_oraIndY (b : Byte) : Instr.tableBase (.oraIndY b) = some 5 := show (lookupOpcode 0x11#8).map OpcodeRow.base = some _ from rfl
@[simp] theorem tableBase_oraZpX (b : Byte) : Instr.tableBase (.oraZpX b) = some 4 := show (lookupOpcode 0x15#8).map OpcodeRow.base = some _ from rfl
@[simp] theorem tableBase_aslZpX (b : Byte) : Instr.tableBase (.aslZpX b) = some 6 := show (lookupOpcode 0x16#8).map OpcodeRow.base = some _ from rfl
@[simp] theorem tableBase_clc : Instr.tableBase (.clc) = some 2 := show (lookupOpcode 0x18#8).map OpcodeRow.base = some _ from rfl
@[simp] theorem tableBase_oraAbsY (w : Address) : Instr.tableBase (.oraAbsY w) = some 4 := show (lookupOpcode 0x19#8).map OpcodeRow.base = some _ from rfl
@[simp] theorem tableBase_oraAbsX (w : Address) : Instr.tableBase (.oraAbsX w) = some 4 := show (lookupOpcode 0x1D#8).map OpcodeRow.base = some _ from rfl
@[simp] theorem tableBase_aslAbsX (w : Address) : Instr.tableBase (.aslAbsX w) = some 7 := show (lookupOpcode 0x1E#8).map OpcodeRow.base = some _ from rfl
@[simp] theorem tableBase_jsr (w : Address) : Instr.tableBase (.jsr w) = some 6 := show (lookupOpcode 0x20#8).map OpcodeRow.base = some _ from rfl
@[simp] theorem tableBase_andXInd (b : Byte) : Instr.tableBase (.andXInd b) = some 6 := show (lookupOpcode 0x21#8).map OpcodeRow.base = some _ from rfl
@[simp] theorem tableBase_bitZp (b : Byte) : Instr.tableBase (.bitZp b) = some 3 := show (lookupOpcode 0x24#8).map OpcodeRow.base = some _ from rfl
@[simp] theorem tableBase_andZp (b : Byte) : Instr.tableBase (.andZp b) = some 3 := show (lookupOpcode 0x25#8).map OpcodeRow.base = some _ from rfl
@[simp] theorem tableBase_rolZp (b : Byte) : Instr.tableBase (.rolZp b) = some 5 := show (lookupOpcode 0x26#8).map OpcodeRow.base = some _ from rfl
@[simp] theorem tableBase_plp : Instr.tableBase (.plp) = some 4 := show (lookupOpcode 0x28#8).map OpcodeRow.base = some _ from rfl
@[simp] theorem tableBase_andImm (b : Byte) : Instr.tableBase (.andImm b) = some 2 := show (lookupOpcode 0x29#8).map OpcodeRow.base = some _ from rfl
@[simp] theorem tableBase_rolAcc : Instr.tableBase (.rolAcc) = some 2 := show (lookupOpcode 0x2A#8).map OpcodeRow.base = some _ from rfl
@[simp] theorem tableBase_bitAbs (w : Address) : Instr.tableBase (.bitAbs w) = some 4 := show (lookupOpcode 0x2C#8).map OpcodeRow.base = some _ from rfl
@[simp] theorem tableBase_andAbs (w : Address) : Instr.tableBase (.andAbs w) = some 4 := show (lookupOpcode 0x2D#8).map OpcodeRow.base = some _ from rfl
@[simp] theorem tableBase_rolAbs (w : Address) : Instr.tableBase (.rolAbs w) = some 6 := show (lookupOpcode 0x2E#8).map OpcodeRow.base = some _ from rfl
@[simp] theorem tableBase_bmi (d : Int) : Instr.tableBase (.bmi d) = some 2 := show (lookupOpcode 0x30#8).map OpcodeRow.base = some _ from rfl
@[simp] theorem tableBase_andIndY (b : Byte) : Instr.tableBase (.andIndY b) = some 5 := show (lookupOpcode 0x31#8).map OpcodeRow.base = some _ from rfl
@[simp] theorem tableBase_andZpX (b : Byte) : Instr.tableBase (.andZpX b) = some 4 := show (lookupOpcode 0x35#8).map OpcodeRow.base = some _ from rfl
@[simp] theorem tableBase_rolZpX (b : Byte) : Instr.tableBase (.rolZpX b) = some 6 := show (lookupOpcode 0x36#8).map OpcodeRow.base = some _ from rfl
@[simp] theorem tableBase_sec : Instr.tableBase (.sec) = some 2 := show (lookupOpcode 0x38#8).map OpcodeRow.base = some _ from rfl
@[simp] theorem tableBase_andAbsY (w : Address) : Instr.tableBase (.andAbsY w) = some 4 := show (lookupOpcode 0x39#8).map OpcodeRow.base = some _ from rfl
@[simp] theorem tableBase_andAbsX (w : Address) : Instr.tableBase (.andAbsX w) = some 4 := show (lookupOpcode 0x3D#8).map OpcodeRow.base = some _ from rfl
@[simp] theorem tableBase_rolAbsX (w : Address) : Instr.tableBase (.rolAbsX w) = some 7 := show (lookupOpcode 0x3E#8).map OpcodeRow.base = some _ from rfl
@[simp] theorem tableBase_rti : Instr.tableBase (.rti) = some 6 := show (lookupOpcode 0x40#8).map OpcodeRow.base = some _ from rfl
@[simp] theorem tableBase_eorXInd (b : Byte) : Instr.tableBase (.eorXInd b) = some 6 := show (lookupOpcode 0x41#8).map OpcodeRow.base = some _ from rfl
@[simp] theorem tableBase_eorZp (b : Byte) : Instr.tableBase (.eorZp b) = some 3 := show (lookupOpcode 0x45#8).map OpcodeRow.base = some _ from rfl
@[simp] theorem tableBase_lsrZp (b : Byte) : Instr.tableBase (.lsrZp b) = some 5 := show (lookupOpcode 0x46#8).map OpcodeRow.base = some _ from rfl
@[simp] theorem tableBase_pha : Instr.tableBase (.pha) = some 3 := show (lookupOpcode 0x48#8).map OpcodeRow.base = some _ from rfl
@[simp] theorem tableBase_eorImm (b : Byte) : Instr.tableBase (.eorImm b) = some 2 := show (lookupOpcode 0x49#8).map OpcodeRow.base = some _ from rfl
@[simp] theorem tableBase_lsrAcc : Instr.tableBase (.lsrAcc) = some 2 := show (lookupOpcode 0x4A#8).map OpcodeRow.base = some _ from rfl
@[simp] theorem tableBase_jmpAbs (w : Address) : Instr.tableBase (.jmpAbs w) = some 3 := show (lookupOpcode 0x4C#8).map OpcodeRow.base = some _ from rfl
@[simp] theorem tableBase_eorAbs (w : Address) : Instr.tableBase (.eorAbs w) = some 4 := show (lookupOpcode 0x4D#8).map OpcodeRow.base = some _ from rfl
@[simp] theorem tableBase_lsrAbs (w : Address) : Instr.tableBase (.lsrAbs w) = some 6 := show (lookupOpcode 0x4E#8).map OpcodeRow.base = some _ from rfl
@[simp] theorem tableBase_bvc (d : Int) : Instr.tableBase (.bvc d) = some 2 := show (lookupOpcode 0x50#8).map OpcodeRow.base = some _ from rfl
@[simp] theorem tableBase_eorIndY (b : Byte) : Instr.tableBase (.eorIndY b) = some 5 := show (lookupOpcode 0x51#8).map OpcodeRow.base = some _ from rfl
@[simp] theorem tableBase_eorZpX (b : Byte) : Instr.tableBase (.eorZpX b) = some 4 := show (lookupOpcode 0x55#8).map OpcodeRow.base = some _ from rfl
@[simp] theorem tableBase_lsrZpX (b : Byte) : Instr.tableBase (.lsrZpX b) = some 6 := show (lookupOpcode 0x56#8).map OpcodeRow.base = some _ from rfl
@[simp] theorem tableBase_cli : Instr.tableBase (.cli) = some 2 := show (lookupOpcode 0x58#8).map OpcodeRow.base = some _ from rfl
@[simp] theorem tableBase_eorAbsY (w : Address) : Instr.tableBase (.eorAbsY w) = some 4 := show (lookupOpcode 0x59#8).map OpcodeRow.base = some _ from rfl
@[simp] theorem tableBase_eorAbsX (w : Address) : Instr.tableBase (.eorAbsX w) = some 4 := show (lookupOpcode 0x5D#8).map OpcodeRow.base = some _ from rfl
@[simp] theorem tableBase_lsrAbsX (w : Address) : Instr.tableBase (.lsrAbsX w) = some 7 := show (lookupOpcode 0x5E#8).map OpcodeRow.base = some _ from rfl
@[simp] theorem tableBase_rts : Instr.tableBase (.rts) = some 6 := show (lookupOpcode 0x60#8).map OpcodeRow.base = some _ from rfl
@[simp] theorem tableBase_adcXInd (b : Byte) : Instr.tableBase (.adcXInd b) = some 6 := show (lookupOpcode 0x61#8).map OpcodeRow.base = some _ from rfl
@[simp] theorem tableBase_adcZp (b : Byte) : Instr.tableBase (.adcZp b) = some 3 := show (lookupOpcode 0x65#8).map OpcodeRow.base = some _ from rfl
@[simp] theorem tableBase_rorZp (b : Byte) : Instr.tableBase (.rorZp b) = some 5 := show (lookupOpcode 0x66#8).map OpcodeRow.base = some _ from rfl
@[simp] theorem tableBase_pla : Instr.tableBase (.pla) = some 4 := show (lookupOpcode 0x68#8).map OpcodeRow.base = some _ from rfl
@[simp] theorem tableBase_adcImm (b : Byte) : Instr.tableBase (.adcImm b) = some 2 := show (lookupOpcode 0x69#8).map OpcodeRow.base = some _ from rfl
@[simp] theorem tableBase_rorAcc : Instr.tableBase (.rorAcc) = some 2 := show (lookupOpcode 0x6A#8).map OpcodeRow.base = some _ from rfl
@[simp] theorem tableBase_jmpInd (w : Address) : Instr.tableBase (.jmpInd w) = some 5 := show (lookupOpcode 0x6C#8).map OpcodeRow.base = some _ from rfl
@[simp] theorem tableBase_adcAbs (w : Address) : Instr.tableBase (.adcAbs w) = some 4 := show (lookupOpcode 0x6D#8).map OpcodeRow.base = some _ from rfl
@[simp] theorem tableBase_rorAbs (w : Address) : Instr.tableBase (.rorAbs w) = some 6 := show (lookupOpcode 0x6E#8).map OpcodeRow.base = some _ from rfl
@[simp] theorem tableBase_bvs (d : Int) : Instr.tableBase (.bvs d) = some 2 := show (lookupOpcode 0x70#8).map OpcodeRow.base = some _ from rfl
@[simp] theorem tableBase_adcIndY (b : Byte) : Instr.tableBase (.adcIndY b) = some 5 := show (lookupOpcode 0x71#8).map OpcodeRow.base = some _ from rfl
@[simp] theorem tableBase_adcZpX (b : Byte) : Instr.tableBase (.adcZpX b) = some 4 := show (lookupOpcode 0x75#8).map OpcodeRow.base = some _ from rfl
@[simp] theorem tableBase_rorZpX (b : Byte) : Instr.tableBase (.rorZpX b) = some 6 := show (lookupOpcode 0x76#8).map OpcodeRow.base = some _ from rfl
@[simp] theorem tableBase_sei : Instr.tableBase (.sei) = some 2 := show (lookupOpcode 0x78#8).map OpcodeRow.base = some _ from rfl
@[simp] theorem tableBase_adcAbsY (w : Address) : Instr.tableBase (.adcAbsY w) = some 4 := show (lookupOpcode 0x79#8).map OpcodeRow.base = some _ from rfl
@[simp] theorem tableBase_adcAbsX (w : Address) : Instr.tableBase (.adcAbsX w) = some 4 := show (lookupOpcode 0x7D#8).map OpcodeRow.base = some _ from rfl
@[simp] theorem tableBase_rorAbsX (w : Address) : Instr.tableBase (.rorAbsX w) = some 7 := show (lookupOpcode 0x7E#8).map OpcodeRow.base = some _ from rfl
@[simp] theorem tableBase_staXInd (b : Byte) : Instr.tableBase (.staXInd b) = some 6 := show (lookupOpcode 0x81#8).map OpcodeRow.base = some _ from rfl
@[simp] theorem tableBase_styZp (b : Byte) : Instr.tableBase (.styZp b) = some 3 := show (lookupOpcode 0x84#8).map OpcodeRow.base = some _ from rfl
@[simp] theorem tableBase_staZp (b : Byte) : Instr.tableBase (.staZp b) = some 3 := show (lookupOpcode 0x85#8).map OpcodeRow.base = some _ from rfl
@[simp] theorem tableBase_stxZp (b : Byte) : Instr.tableBase (.stxZp b) = some 3 := show (lookupOpcode 0x86#8).map OpcodeRow.base = some _ from rfl
@[simp] theorem tableBase_dey : Instr.tableBase (.dey) = some 2 := show (lookupOpcode 0x88#8).map OpcodeRow.base = some _ from rfl
@[simp] theorem tableBase_txa : Instr.tableBase (.txa) = some 2 := show (lookupOpcode 0x8A#8).map OpcodeRow.base = some _ from rfl
@[simp] theorem tableBase_styAbs (w : Address) : Instr.tableBase (.styAbs w) = some 4 := show (lookupOpcode 0x8C#8).map OpcodeRow.base = some _ from rfl
@[simp] theorem tableBase_staAbs (w : Address) : Instr.tableBase (.staAbs w) = some 4 := show (lookupOpcode 0x8D#8).map OpcodeRow.base = some _ from rfl
@[simp] theorem tableBase_stxAbs (w : Address) : Instr.tableBase (.stxAbs w) = some 4 := show (lookupOpcode 0x8E#8).map OpcodeRow.base = some _ from rfl
@[simp] theorem tableBase_bcc (d : Int) : Instr.tableBase (.bcc d) = some 2 := show (lookupOpcode 0x90#8).map OpcodeRow.base = some _ from rfl
@[simp] theorem tableBase_staIndY (b : Byte) : Instr.tableBase (.staIndY b) = some 6 := show (lookupOpcode 0x91#8).map OpcodeRow.base = some _ from rfl
@[simp] theorem tableBase_styZpX (b : Byte) : Instr.tableBase (.styZpX b) = some 4 := show (lookupOpcode 0x94#8).map OpcodeRow.base = some _ from rfl
@[simp] theorem tableBase_staZpX (b : Byte) : Instr.tableBase (.staZpX b) = some 4 := show (lookupOpcode 0x95#8).map OpcodeRow.base = some _ from rfl
@[simp] theorem tableBase_stxZpY (b : Byte) : Instr.tableBase (.stxZpY b) = some 4 := show (lookupOpcode 0x96#8).map OpcodeRow.base = some _ from rfl
@[simp] theorem tableBase_tya : Instr.tableBase (.tya) = some 2 := show (lookupOpcode 0x98#8).map OpcodeRow.base = some _ from rfl
@[simp] theorem tableBase_staAbsY (w : Address) : Instr.tableBase (.staAbsY w) = some 5 := show (lookupOpcode 0x99#8).map OpcodeRow.base = some _ from rfl
@[simp] theorem tableBase_txs : Instr.tableBase (.txs) = some 2 := show (lookupOpcode 0x9A#8).map OpcodeRow.base = some _ from rfl
@[simp] theorem tableBase_staAbsX (w : Address) : Instr.tableBase (.staAbsX w) = some 5 := show (lookupOpcode 0x9D#8).map OpcodeRow.base = some _ from rfl
@[simp] theorem tableBase_ldyImm (b : Byte) : Instr.tableBase (.ldyImm b) = some 2 := show (lookupOpcode 0xA0#8).map OpcodeRow.base = some _ from rfl
@[simp] theorem tableBase_ldaXInd (b : Byte) : Instr.tableBase (.ldaXInd b) = some 6 := show (lookupOpcode 0xA1#8).map OpcodeRow.base = some _ from rfl
@[simp] theorem tableBase_ldxImm (b : Byte) : Instr.tableBase (.ldxImm b) = some 2 := show (lookupOpcode 0xA2#8).map OpcodeRow.base = some _ from rfl
@[simp] theorem tableBase_ldyZp (b : Byte) : Instr.tableBase (.ldyZp b) = some 3 := show (lookupOpcode 0xA4#8).map OpcodeRow.base = some _ from rfl
@[simp] theorem tableBase_ldaZp (b : Byte) : Instr.tableBase (.ldaZp b) = some 3 := show (lookupOpcode 0xA5#8).map OpcodeRow.base = some _ from rfl
@[simp] theorem tableBase_ldxZp (b : Byte) : Instr.tableBase (.ldxZp b) = some 3 := show (lookupOpcode 0xA6#8).map OpcodeRow.base = some _ from rfl
@[simp] theorem tableBase_tay : Instr.tableBase (.tay) = some 2 := show (lookupOpcode 0xA8#8).map OpcodeRow.base = some _ from rfl
@[simp] theorem tableBase_ldaImm (b : Byte) : Instr.tableBase (.ldaImm b) = some 2 := show (lookupOpcode 0xA9#8).map OpcodeRow.base = some _ from rfl
@[simp] theorem tableBase_tax : Instr.tableBase (.tax) = some 2 := show (lookupOpcode 0xAA#8).map OpcodeRow.base = some _ from rfl
@[simp] theorem tableBase_ldyAbs (w : Address) : Instr.tableBase (.ldyAbs w) = some 4 := show (lookupOpcode 0xAC#8).map OpcodeRow.base = some _ from rfl
@[simp] theorem tableBase_ldaAbs (w : Address) : Instr.tableBase (.ldaAbs w) = some 4 := show (lookupOpcode 0xAD#8).map OpcodeRow.base = some _ from rfl
@[simp] theorem tableBase_ldxAbs (w : Address) : Instr.tableBase (.ldxAbs w) = some 4 := show (lookupOpcode 0xAE#8).map OpcodeRow.base = some _ from rfl
@[simp] theorem tableBase_bcs (d : Int) : Instr.tableBase (.bcs d) = some 2 := show (lookupOpcode 0xB0#8).map OpcodeRow.base = some _ from rfl
@[simp] theorem tableBase_ldaIndY (b : Byte) : Instr.tableBase (.ldaIndY b) = some 5 := show (lookupOpcode 0xB1#8).map OpcodeRow.base = some _ from rfl
@[simp] theorem tableBase_ldyZpX (b : Byte) : Instr.tableBase (.ldyZpX b) = some 4 := show (lookupOpcode 0xB4#8).map OpcodeRow.base = some _ from rfl
@[simp] theorem tableBase_ldaZpX (b : Byte) : Instr.tableBase (.ldaZpX b) = some 4 := show (lookupOpcode 0xB5#8).map OpcodeRow.base = some _ from rfl
@[simp] theorem tableBase_ldxZpY (b : Byte) : Instr.tableBase (.ldxZpY b) = some 4 := show (lookupOpcode 0xB6#8).map OpcodeRow.base = some _ from rfl
@[simp] theorem tableBase_clv : Instr.tableBase (.clv) = some 2 := show (lookupOpcode 0xB8#8).map OpcodeRow.base = some _ from rfl
@[simp] theorem tableBase_ldaAbsY (w : Address) : Instr.tableBase (.ldaAbsY w) = some 4 := show (lookupOpcode 0xB9#8).map OpcodeRow.base = some _ from rfl
@[simp] theorem tableBase_tsx : Instr.tableBase (.tsx) = some 2 := show (lookupOpcode 0xBA#8).map OpcodeRow.base = some _ from rfl
@[simp] theorem tableBase_ldyAbsX (w : Address) : Instr.tableBase (.ldyAbsX w) = some 4 := show (lookupOpcode 0xBC#8).map OpcodeRow.base = some _ from rfl
@[simp] theorem tableBase_ldaAbsX (w : Address) : Instr.tableBase (.ldaAbsX w) = some 4 := show (lookupOpcode 0xBD#8).map OpcodeRow.base = some _ from rfl
@[simp] theorem tableBase_ldxAbsY (w : Address) : Instr.tableBase (.ldxAbsY w) = some 4 := show (lookupOpcode 0xBE#8).map OpcodeRow.base = some _ from rfl
@[simp] theorem tableBase_cpyImm (b : Byte) : Instr.tableBase (.cpyImm b) = some 2 := show (lookupOpcode 0xC0#8).map OpcodeRow.base = some _ from rfl
@[simp] theorem tableBase_cmpXInd (b : Byte) : Instr.tableBase (.cmpXInd b) = some 6 := show (lookupOpcode 0xC1#8).map OpcodeRow.base = some _ from rfl
@[simp] theorem tableBase_cpyZp (b : Byte) : Instr.tableBase (.cpyZp b) = some 3 := show (lookupOpcode 0xC4#8).map OpcodeRow.base = some _ from rfl
@[simp] theorem tableBase_cmpZp (b : Byte) : Instr.tableBase (.cmpZp b) = some 3 := show (lookupOpcode 0xC5#8).map OpcodeRow.base = some _ from rfl
@[simp] theorem tableBase_decZp (b : Byte) : Instr.tableBase (.decZp b) = some 5 := show (lookupOpcode 0xC6#8).map OpcodeRow.base = some _ from rfl
@[simp] theorem tableBase_iny : Instr.tableBase (.iny) = some 2 := show (lookupOpcode 0xC8#8).map OpcodeRow.base = some _ from rfl
@[simp] theorem tableBase_cmpImm (b : Byte) : Instr.tableBase (.cmpImm b) = some 2 := show (lookupOpcode 0xC9#8).map OpcodeRow.base = some _ from rfl
@[simp] theorem tableBase_dex : Instr.tableBase (.dex) = some 2 := show (lookupOpcode 0xCA#8).map OpcodeRow.base = some _ from rfl
@[simp] theorem tableBase_cpyAbs (w : Address) : Instr.tableBase (.cpyAbs w) = some 4 := show (lookupOpcode 0xCC#8).map OpcodeRow.base = some _ from rfl
@[simp] theorem tableBase_cmpAbs (w : Address) : Instr.tableBase (.cmpAbs w) = some 4 := show (lookupOpcode 0xCD#8).map OpcodeRow.base = some _ from rfl
@[simp] theorem tableBase_decAbs (w : Address) : Instr.tableBase (.decAbs w) = some 6 := show (lookupOpcode 0xCE#8).map OpcodeRow.base = some _ from rfl
@[simp] theorem tableBase_bne (d : Int) : Instr.tableBase (.bne d) = some 2 := show (lookupOpcode 0xD0#8).map OpcodeRow.base = some _ from rfl
@[simp] theorem tableBase_cmpIndY (b : Byte) : Instr.tableBase (.cmpIndY b) = some 5 := show (lookupOpcode 0xD1#8).map OpcodeRow.base = some _ from rfl
@[simp] theorem tableBase_cmpZpX (b : Byte) : Instr.tableBase (.cmpZpX b) = some 4 := show (lookupOpcode 0xD5#8).map OpcodeRow.base = some _ from rfl
@[simp] theorem tableBase_decZpX (b : Byte) : Instr.tableBase (.decZpX b) = some 6 := show (lookupOpcode 0xD6#8).map OpcodeRow.base = some _ from rfl
@[simp] theorem tableBase_cld : Instr.tableBase (.cld) = some 2 := show (lookupOpcode 0xD8#8).map OpcodeRow.base = some _ from rfl
@[simp] theorem tableBase_cmpAbsY (w : Address) : Instr.tableBase (.cmpAbsY w) = some 4 := show (lookupOpcode 0xD9#8).map OpcodeRow.base = some _ from rfl
@[simp] theorem tableBase_cmpAbsX (w : Address) : Instr.tableBase (.cmpAbsX w) = some 4 := show (lookupOpcode 0xDD#8).map OpcodeRow.base = some _ from rfl
@[simp] theorem tableBase_decAbsX (w : Address) : Instr.tableBase (.decAbsX w) = some 7 := show (lookupOpcode 0xDE#8).map OpcodeRow.base = some _ from rfl
@[simp] theorem tableBase_cpxImm (b : Byte) : Instr.tableBase (.cpxImm b) = some 2 := show (lookupOpcode 0xE0#8).map OpcodeRow.base = some _ from rfl
@[simp] theorem tableBase_sbcXInd (b : Byte) : Instr.tableBase (.sbcXInd b) = some 6 := show (lookupOpcode 0xE1#8).map OpcodeRow.base = some _ from rfl
@[simp] theorem tableBase_cpxZp (b : Byte) : Instr.tableBase (.cpxZp b) = some 3 := show (lookupOpcode 0xE4#8).map OpcodeRow.base = some _ from rfl
@[simp] theorem tableBase_sbcZp (b : Byte) : Instr.tableBase (.sbcZp b) = some 3 := show (lookupOpcode 0xE5#8).map OpcodeRow.base = some _ from rfl
@[simp] theorem tableBase_incZp (b : Byte) : Instr.tableBase (.incZp b) = some 5 := show (lookupOpcode 0xE6#8).map OpcodeRow.base = some _ from rfl
@[simp] theorem tableBase_inx : Instr.tableBase (.inx) = some 2 := show (lookupOpcode 0xE8#8).map OpcodeRow.base = some _ from rfl
@[simp] theorem tableBase_sbcImm (b : Byte) : Instr.tableBase (.sbcImm b) = some 2 := show (lookupOpcode 0xE9#8).map OpcodeRow.base = some _ from rfl
@[simp] theorem tableBase_nop : Instr.tableBase (.nop) = some 2 := show (lookupOpcode 0xEA#8).map OpcodeRow.base = some _ from rfl
@[simp] theorem tableBase_cpxAbs (w : Address) : Instr.tableBase (.cpxAbs w) = some 4 := show (lookupOpcode 0xEC#8).map OpcodeRow.base = some _ from rfl
@[simp] theorem tableBase_sbcAbs (w : Address) : Instr.tableBase (.sbcAbs w) = some 4 := show (lookupOpcode 0xED#8).map OpcodeRow.base = some _ from rfl
@[simp] theorem tableBase_incAbs (w : Address) : Instr.tableBase (.incAbs w) = some 6 := show (lookupOpcode 0xEE#8).map OpcodeRow.base = some _ from rfl
@[simp] theorem tableBase_beq (d : Int) : Instr.tableBase (.beq d) = some 2 := show (lookupOpcode 0xF0#8).map OpcodeRow.base = some _ from rfl
@[simp] theorem tableBase_sbcIndY (b : Byte) : Instr.tableBase (.sbcIndY b) = some 5 := show (lookupOpcode 0xF1#8).map OpcodeRow.base = some _ from rfl
@[simp] theorem tableBase_sbcZpX (b : Byte) : Instr.tableBase (.sbcZpX b) = some 4 := show (lookupOpcode 0xF5#8).map OpcodeRow.base = some _ from rfl
@[simp] theorem tableBase_incZpX (b : Byte) : Instr.tableBase (.incZpX b) = some 6 := show (lookupOpcode 0xF6#8).map OpcodeRow.base = some _ from rfl
@[simp] theorem tableBase_sed : Instr.tableBase (.sed) = some 2 := show (lookupOpcode 0xF8#8).map OpcodeRow.base = some _ from rfl
@[simp] theorem tableBase_sbcAbsY (w : Address) : Instr.tableBase (.sbcAbsY w) = some 4 := show (lookupOpcode 0xF9#8).map OpcodeRow.base = some _ from rfl
@[simp] theorem tableBase_sbcAbsX (w : Address) : Instr.tableBase (.sbcAbsX w) = some 4 := show (lookupOpcode 0xFD#8).map OpcodeRow.base = some _ from rfl
@[simp] theorem tableBase_incAbsX (w : Address) : Instr.tableBase (.incAbsX w) = some 7 := show (lookupOpcode 0xFE#8).map OpcodeRow.base = some _ from rfl

@[simp] theorem size_brk : Instr.size (.brk) = 1 := rfl
@[simp] theorem size_oraXInd (b : Byte) : Instr.size (.oraXInd b) = 2 := rfl
@[simp] theorem size_oraZp (b : Byte) : Instr.size (.oraZp b) = 2 := rfl
@[simp] theorem size_aslZp (b : Byte) : Instr.size (.aslZp b) = 2 := rfl
@[simp] theorem size_php : Instr.size (.php) = 1 := rfl
@[simp] theorem size_oraImm (b : Byte) : Instr.size (.oraImm b) = 2 := rfl
@[simp] theorem size_aslAcc : Instr.size (.aslAcc) = 1 := rfl
@[simp] theorem size_oraAbs (w : Address) : Instr.size (.oraAbs w) = 3 := rfl
@[simp] theorem size_aslAbs (w : Address) : Instr.size (.aslAbs w) = 3 := rfl
@[simp] theorem size_bpl (d : Int) : Instr.size (.bpl d) = 2 := rfl
@[simp] theorem size_oraIndY (b : Byte) : Instr.size (.oraIndY b) = 2 := rfl
@[simp] theorem size_oraZpX (b : Byte) : Instr.size (.oraZpX b) = 2 := rfl
@[simp] theorem size_aslZpX (b : Byte) : Instr.size (.aslZpX b) = 2 := rfl
@[simp] theorem size_clc : Instr.size (.clc) = 1 := rfl
@[simp] theorem size_oraAbsY (w : Address) : Instr.size (.oraAbsY w) = 3 := rfl
@[simp] theorem size_oraAbsX (w : Address) : Instr.size (.oraAbsX w) = 3 := rfl
@[simp] theorem size_aslAbsX (w : Address) : Instr.size (.aslAbsX w) = 3 := rfl
@[simp] theorem size_jsr (w : Address) : Instr.size (.jsr w) = 3 := rfl
@[simp] theorem size_andXInd (b : Byte) : Instr.size (.andXInd b) = 2 := rfl
@[simp] theorem size_bitZp (b : Byte) : Instr.size (.bitZp b) = 2 := rfl
@[simp] theorem size_andZp (b : Byte) : Instr.size (.andZp b) = 2 := rfl
@[simp] theorem size_rolZp (b : Byte) : Instr.size (.rolZp b) = 2 := rfl
@[simp] theorem size_plp : Instr.size (.plp) = 1 := rfl
@[simp] theorem size_andImm (b : Byte) : Instr.size (.andImm b) = 2 := rfl
@[simp] theorem size_rolAcc : Instr.size (.rolAcc) = 1 := rfl
@[simp] theorem size_bitAbs (w : Address) : Instr.size (.bitAbs w) = 3 := rfl
@[simp] theorem size_andAbs (w : Address) : Instr.size (.andAbs w) = 3 := rfl
@[simp] theorem size_rolAbs (w : Address) : Instr.size (.rolAbs w) = 3 := rfl
@[simp] theorem size_bmi (d : Int) : Instr.size (.bmi d) = 2 := rfl
@[simp] theorem size_andIndY (b : Byte) : Instr.size (.andIndY b) = 2 := rfl
@[simp] theorem size_andZpX (b : Byte) : Instr.size (.andZpX b) = 2 := rfl
@[simp] theorem size_rolZpX (b : Byte) : Instr.size (.rolZpX b) = 2 := rfl
@[simp] theorem size_sec : Instr.size (.sec) = 1 := rfl
@[simp] theorem size_andAbsY (w : Address) : Instr.size (.andAbsY w) = 3 := rfl
@[simp] theorem size_andAbsX (w : Address) : Instr.size (.andAbsX w) = 3 := rfl
@[simp] theorem size_rolAbsX (w : Address) : Instr.size (.rolAbsX w) = 3 := rfl
@[simp] theorem size_rti : Instr.size (.rti) = 1 := rfl
@[simp] theorem size_eorXInd (b : Byte) : Instr.size (.eorXInd b) = 2 := rfl
@[simp] theorem size_eorZp (b : Byte) : Instr.size (.eorZp b) = 2 := rfl
@[simp] theorem size_lsrZp (b : Byte) : Instr.size (.lsrZp b) = 2 := rfl
@[simp] theorem size_pha : Instr.size (.pha) = 1 := rfl
@[simp] theorem size_eorImm (b : Byte) : Instr.size (.eorImm b) = 2 := rfl
@[simp] theorem size_lsrAcc : Instr.size (.lsrAcc) = 1 := rfl
@[simp] theorem size_jmpAbs (w : Address) : Instr.size (.jmpAbs w) = 3 := rfl
@[simp] theorem size_eorAbs (w : Address) : Instr.size (.eorAbs w) = 3 := rfl
@[simp] theorem size_lsrAbs (w : Address) : Instr.size (.lsrAbs w) = 3 := rfl
@[simp] theorem size_bvc (d : Int) : Instr.size (.bvc d) = 2 := rfl
@[simp] theorem size_eorIndY (b : Byte) : Instr.size (.eorIndY b) = 2 := rfl
@[simp] theorem size_eorZpX (b : Byte) : Instr.size (.eorZpX b) = 2 := rfl
@[simp] theorem size_lsrZpX (b : Byte) : Instr.size (.lsrZpX b) = 2 := rfl
@[simp] theorem size_cli : Instr.size (.cli) = 1 := rfl
@[simp] theorem size_eorAbsY (w : Address) : Instr.size (.eorAbsY w) = 3 := rfl
@[simp] theorem size_eorAbsX (w : Address) : Instr.size (.eorAbsX w) = 3 := rfl
@[simp] theorem size_lsrAbsX (w : Address) : Instr.size (.lsrAbsX w) = 3 := rfl
@[simp] theorem size_rts : Instr.size (.rts) = 1 := rfl
@[simp] theorem size_adcXInd (b : Byte) : Instr.size (.adcXInd b) = 2 := rfl
@[simp] theorem size_adcZp (b : Byte) : Instr.size (.adcZp b) = 2 := rfl
@[simp] theorem size_rorZp (b : Byte) : Instr.size (.rorZp b) = 2 := rfl
@[simp] theorem size_pla : Instr.size (.pla) = 1 := rfl
@[simp] theorem size_adcImm (b : Byte) : Instr.size (.adcImm b) = 2 := rfl
@[simp] theorem size_rorAcc : Instr.size (.rorAcc) = 1 := rfl
@[simp] theorem size_jmpInd (w : Address) : Instr.size (.jmpInd w) = 3 := rfl
@[simp] theorem size_adcAbs (w : Address) : Instr.size (.adcAbs w) = 3 := rfl
@[simp] theorem size_rorAbs (w : Address) : Instr.size (.rorAbs w) = 3 := rfl
@[simp] theorem size_bvs (d : Int) : Instr.size (.bvs d) = 2 := rfl
@[simp] theorem size_adcIndY (b : Byte) : Instr.size (.adcIndY b) = 2 := rfl
@[simp] theorem size_adcZpX (b : Byte) : Instr.size (.adcZpX b) = 2 := rfl
@[simp] theorem size_rorZpX (b : Byte) : Instr.size (.rorZpX b) = 2 := rfl
@[simp] theorem size_sei : Instr.size (.sei) = 1 := rfl
@[simp] theorem size_adcAbsY (w : Address) : Instr.size (.adcAbsY w) = 3 := rfl
@[simp] theorem size_adcAbsX (w : Address) : Instr.size (.adcAbsX w) = 3 := rfl
@[simp] theorem size_rorAbsX (w : Address) : Instr.size (.rorAbsX w) = 3 := rfl
@[simp] theorem size_staXInd (b : Byte) : Instr.size (.staXInd b) = 2 := rfl
@[simp] theorem size_styZp (b : Byte) : Instr.size (.styZp b) = 2 := rfl
@[simp] theorem size_staZp (b : Byte) : Instr.size (.staZp b) = 2 := rfl
@[simp] theorem size_stxZp (b : Byte) : Instr.size (.stxZp b) = 2 := rfl
@[simp] theorem size_dey : Instr.size (.dey) = 1 := rfl
@[simp] theorem size_txa : Instr.size (.txa) = 1 := rfl
@[simp] theorem size_styAbs (w : Address) : Instr.size (.styAbs w) = 3 := rfl
@[simp] theorem size_staAbs (w : Address) : Instr.size (.staAbs w) = 3 := rfl
@[simp] theorem size_stxAbs (w : Address) : Instr.size (.stxAbs w) = 3 := rfl
@[simp] theorem size_bcc (d : Int) : Instr.size (.bcc d) = 2 := rfl
@[simp] theorem size_staIndY (b : Byte) : Instr.size (.staIndY b) = 2 := rfl
@[simp] theorem size_styZpX (b : Byte) : Instr.size (.styZpX b) = 2 := rfl
@[simp] theorem size_staZpX (b : Byte) : Instr.size (.staZpX b) = 2 := rfl
@[simp] theorem size_stxZpY (b : Byte) : Instr.size (.stxZpY b) = 2 := rfl
@[simp] theorem size_tya : Instr.size (.tya) = 1 := rfl
@[simp] theorem size_staAbsY (w : Address) : Instr.size (.staAbsY w) = 3 := rfl
@[simp] theorem size_txs : Instr.size (.txs) = 1 := rfl
@[simp] theorem size_staAbsX (w : Address) : Instr.size (.staAbsX w) = 3 := rfl
@[simp] theorem size_ldyImm (b : Byte) : Instr.size (.ldyImm b) = 2 := rfl
@[simp] theorem size_ldaXInd (b : Byte) : Instr.size (.ldaXInd b) = 2 := rfl
@[simp] theorem size_ldxImm (b : Byte) : Instr.size (.ldxImm b) = 2 := rfl
@[simp] theorem size_ldyZp (b : Byte) : Instr.size (.ldyZp b) = 2 := rfl
@[simp] theorem size_ldaZp (b : Byte) : Instr.size (.ldaZp b) = 2 := rfl
@[simp] theorem size_ldxZp (b : Byte) : Instr.size (.ldxZp b) = 2 := rfl
@[simp] theorem size_tay : Instr.size (.tay) = 1 := rfl
@[simp] theorem size_ldaImm (b : Byte) : Instr.size (.ldaImm b) = 2 := rfl
@[simp] theorem size_tax : Instr.size (.tax) = 1 := rfl
@[simp] theorem size_ldyAbs (w : Address) : Instr.size (.ldyAbs w) = 3 := rfl
@[simp] theorem size_ldaAbs (w : Address) : Instr.size (.ldaAbs w) = 3 := rfl
@[simp] theorem size_ldxAbs (w : Address) : Instr.size (.ldxAbs w) = 3 := rfl
@[simp] theorem size_bcs (d : Int) : Instr.size (.bcs d) = 2 := rfl
@[simp] theorem size_ldaIndY (b : Byte) : Instr.size (.ldaIndY b) = 2 := rfl
@[simp] theorem size_ldyZpX (b : Byte) : Instr.size (.ldyZpX b) = 2 := rfl
@[simp] theorem size_ldaZpX (b : Byte) : Instr.size (.ldaZpX b) = 2 := rfl
@[simp] theorem size_ldxZpY (b : Byte) : Instr.size (.ldxZpY b) = 2 := rfl
@[simp] theorem size_clv : Instr.size (.clv) = 1 := rfl
@[simp] theorem size_ldaAbsY (w : Address) : Instr.size (.ldaAbsY w) = 3 := rfl
@[simp] theorem size_tsx : Instr.size (.tsx) = 1 := rfl
@[simp] theorem size_ldyAbsX (w : Address) : Instr.size (.ldyAbsX w) = 3 := rfl
@[simp] theorem size_ldaAbsX (w : Address) : Instr.size (.ldaAbsX w) = 3 := rfl
@[simp] theorem size_ldxAbsY (w : Address) : Instr.size (.ldxAbsY w) = 3 := rfl
@[simp] theorem size_cpyImm (b : Byte) : Instr.size (.cpyImm b) = 2 := rfl
@[simp] theorem size_cmpXInd (b : Byte) : Instr.size (.cmpXInd b) = 2 := rfl
@[simp] theorem size_cpyZp (b : Byte) : Instr.size (.cpyZp b) = 2 := rfl
@[simp] theorem size_cmpZp (b : Byte) : Instr.size (.cmpZp b) = 2 := rfl
@[simp] theorem size_decZp (b : Byte) : Instr.size (.decZp b) = 2 := rfl
@[simp] theorem size_iny : Instr.size (.iny) = 1 := rfl
@[simp] theorem size_cmpImm (b : Byte) : Instr.size (.cmpImm b) = 2 := rfl
@[simp] theorem size_dex : Instr.size (.dex) = 1 := rfl
@[simp] theorem size_cpyAbs (w : Address) : Instr.size (.cpyAbs w) = 3 := rfl
@[simp] theorem size_cmpAbs (w : Address) : Instr.size (.cmpAbs w) = 3 := rfl
@[simp] theorem size_decAbs (w : Address) : Instr.size (.decAbs w) = 3 := rfl
@[simp] theorem size_bne (d : Int) : Instr.size (.bne d) = 2 := rfl
@[simp] theorem size_cmpIndY (b : Byte) : Instr.size (.cmpIndY b) = 2 := rfl
@[simp] theorem size_cmpZpX (b : Byte) : Instr.size (.cmpZpX b) = 2 := rfl
@[simp] theorem size_decZpX (b : Byte) : Instr.size (.decZpX b) = 2 := rfl
@[simp] theorem size_cld : Instr.size (.cld) = 1 := rfl
@[simp] theorem size_cmpAbsY (w : Address) : Instr.size (.cmpAbsY w) = 3 := rfl
@[simp] theorem size_cmpAbsX (w : Address) : Instr.size (.cmpAbsX w) = 3 := rfl
@[simp] theorem size_decAbsX (w : Address) : Instr.size (.decAbsX w) = 3 := rfl
@[simp] theorem size_cpxImm (b : Byte) : Instr.size (.cpxImm b) = 2 := rfl
@[simp] theorem size_sbcXInd (b : Byte) : Instr.size (.sbcXInd b) = 2 := rfl
@[simp] theorem size_cpxZp (b : Byte) : Instr.size (.cpxZp b) = 2 := rfl
@[simp] theorem size_sbcZp (b : Byte) : Instr.size (.sbcZp b) = 2 := rfl
@[simp] theorem size_incZp (b : Byte) : Instr.size (.incZp b) = 2 := rfl
@[simp] theorem size_inx : Instr.size (.inx) = 1 := rfl
@[simp] theorem size_sbcImm (b : Byte) : Instr.size (.sbcImm b) = 2 := rfl
@[simp] theorem size_nop : Instr.size (.nop) = 1 := rfl
@[simp] theorem size_cpxAbs (w : Address) : Instr.size (.cpxAbs w) = 3 := rfl
@[simp] theorem size_sbcAbs (w : Address) : Instr.size (.sbcAbs w) = 3 := rfl
@[simp] theorem size_incAbs (w : Address) : Instr.size (.incAbs w) = 3 := rfl
@[simp] theorem size_beq (d : Int) : Instr.size (.beq d) = 2 := rfl
@[simp] theorem size_sbcIndY (b : Byte) : Instr.size (.sbcIndY b) = 2 := rfl
@[simp] theorem size_sbcZpX (b : Byte) : Instr.size (.sbcZpX b) = 2 := rfl
@[simp] theorem size_incZpX (b : Byte) : Instr.size (.incZpX b) = 2 := rfl
@[simp] theorem size_sed : Instr.size (.sed) = 1 := rfl
@[simp] theorem size_sbcAbsY (w : Address) : Instr.size (.sbcAbsY w) = 3 := rfl
@[simp] theorem size_sbcAbsX (w : Address) : Instr.size (.sbcAbsX w) = 3 := rfl
@[simp] theorem size_incAbsX (w : Address) : Instr.size (.incAbsX w) = 3 := rfl

end Sys2Proof.Machine
end

