-- ==== Sys2Proof/Machine/Assembler.lean ====
section
/-! DEFINITION. How an instruction is written (30 R99, R100): its mnemonic and the operand syntax of its mode, and the
displacement an assembler encodes for a branch target. Nothing the machine does depends on it. -/

namespace Sys2Proof.Machine

/-- The 56 mnemonics as they are written, in the order of 30 R99. -/
def mnemonicNames : List (Mnemonic × String) := [
  (.ADC, "ADC"), (.AND, "AND"), (.ASL, "ASL"), (.BCC, "BCC"), (.BCS, "BCS"), (.BEQ, "BEQ"), (.BIT, "BIT"),
  (.BMI, "BMI"), (.BNE, "BNE"), (.BPL, "BPL"), (.BRK, "BRK"), (.BVC, "BVC"), (.BVS, "BVS"), (.CLC, "CLC"),
  (.CLD, "CLD"), (.CLI, "CLI"), (.CLV, "CLV"), (.CMP, "CMP"), (.CPX, "CPX"), (.CPY, "CPY"), (.DEC, "DEC"),
  (.DEX, "DEX"), (.DEY, "DEY"), (.EOR, "EOR"), (.INC, "INC"), (.INX, "INX"), (.INY, "INY"), (.JMP, "JMP"),
  (.JSR, "JSR"), (.LDA, "LDA"), (.LDX, "LDX"), (.LDY, "LDY"), (.LSR, "LSR"), (.NOP, "NOP"), (.ORA, "ORA"),
  (.PHA, "PHA"), (.PHP, "PHP"), (.PLA, "PLA"), (.PLP, "PLP"), (.ROL, "ROL"), (.ROR, "ROR"), (.RTI, "RTI"),
  (.RTS, "RTS"), (.SBC, "SBC"), (.SEC, "SEC"), (.SED, "SED"), (.SEI, "SEI"), (.STA, "STA"), (.STX, "STX"),
  (.STY, "STY"), (.TAX, "TAX"), (.TAY, "TAY"), (.TSX, "TSX"), (.TXA, "TXA"), (.TXS, "TXS"), (.TYA, "TYA")]

/-- A mnemonic as it is written. -/
def mnemonicName (m : Mnemonic) : String := (mnemonicNames.lookup m).getD ""

/-- One hexadecimal digit. -/
def hexDigit (n : Nat) : Char := if n < 10 then Char.ofNat (48 + n) else Char.ofNat (55 + n)

/-- `$nn`: two hexadecimal digits (30 R100: "`$` prefixes a hexadecimal number"). -/
def hexByte (b : Byte) : List Char := ['$', hexDigit (b.toNat / 16), hexDigit (b.toNat % 16)]

/-- `$nnnn`: four hexadecimal digits. -/
def hexWord (w : Address) : List Char :=
  ['$', hexDigit (w.toNat / 4096), hexDigit (w.toNat / 256 % 16), hexDigit (w.toNat / 16 % 16), hexDigit (w.toNat % 16)]

/-- The operand of an instruction at an address as it is written (30 R100); a branch shows its target. -/
def operandText (o : Operand) (pc0 : Address) : List Char :=
  match o with
  | .imp => []
  | .acc => ['A']
  | .mem (.imm b) => '#' :: hexByte b
  | .mem (.zp b) => hexByte b
  | .mem (.zpX b) => hexByte b ++ [',', 'X']
  | .mem (.zpY b) => hexByte b ++ [',', 'Y']
  | .mem (.abs w) => hexWord w
  | .mem (.absX w) => hexWord w ++ [',', 'X']
  | .mem (.absY w) => hexWord w ++ [',', 'Y']
  | .mem (.ind w) => '(' :: hexWord w ++ [')']
  | .mem (.xInd b) => '(' :: hexByte b ++ [',', 'X', ')']
  | .mem (.indY b) => '(' :: hexByte b ++ [')', ',', 'Y']
  | .rel d => hexWord (pc0 + 2 + BitVec.ofInt 16 d)

/-- An instruction at an address as it is written: the mnemonic, and a blank and the operand where there is one (30 R100). -/
def assemblerText (i : Instr) (pc0 : Address) : List Char :=
  (mnemonicName i.mnemonic).toList ++
    match operandText i.operand pc0 with
    | [] => []
    | text => ' ' :: text

/-- The displacement a branch at an address encodes for a target, which "must lie in -128..127" (30 R100). -/
def branchDisplacement (target pc0 : Address) : Option Int :=
  let d := (target - (pc0 + 2)).toInt
  if -128 ≤ d ∧ d ≤ 127 then some d else none

end Sys2Proof.Machine
end

