-- ==== Sys2Proof/Tests/Slice0.lean ====
section
/-! SUPPORT. The model's own tests. Expected results come from the spec: the encodings of 30, the worked examples and derived
vectors of 95 L1 and L2, and the rules named beside each. The last part shows, for each obligation with hypotheses, a concrete
input that meets them. -/

namespace Sys2Proof.Tests

open Sys2Proof.Machine

/-- The start state of 95: `State.reset` at an address with bytes stored there. -/
def code (pc : Address) (bytes : List Byte) : State := (State.reset.setPC pc).writeBytes bytes pc

/-- The state after one Step; the Step always answers a next state. -/
def after (s : State) : State :=
  match step s with
  | .next t => t
  | .fault _ => s
  | .refused _ => s

/-- A, P and the cycles still owed after one Step, less the one the Step took. -/
def apc (s : State) : Byte × Byte × Nat := let t := after s; (t.A, t.P, t.remaining + 1)

/-- The instruction at the head of a list of bytes, if there is one. -/
def decoded (bytes : List Byte) : Option Instr := ((decode bytes).toOption).map Prod.fst

/-! Well-formedness (30 R92, R98): the one check is the range of a displacement, in each of the eight branches. -/

theorem test_wf_refuses_displacement_above :
    ¬(Instr.bcc 128).wf ∧ ¬(Instr.bcs 128).wf ∧ ¬(Instr.beq 128).wf ∧ ¬(Instr.bmi 128).wf ∧ ¬(Instr.bne 128).wf ∧
    ¬(Instr.bpl 128).wf ∧ ¬(Instr.bvc 128).wf ∧ ¬(Instr.bvs 128).wf := by decide
theorem test_wf_refuses_displacement_below :
    ¬(Instr.bcc (-129)).wf ∧ ¬(Instr.bcs (-129)).wf ∧ ¬(Instr.beq (-129)).wf ∧ ¬(Instr.bmi (-129)).wf ∧
    ¬(Instr.bne (-129)).wf ∧ ¬(Instr.bpl (-129)).wf ∧ ¬(Instr.bvc (-129)).wf ∧ ¬(Instr.bvs (-129)).wf := by decide
theorem test_wf_takes_the_whole_range :
    (Instr.bne 127).wf ∧ (Instr.bne (-128)).wf ∧ (Instr.jsr 0xFFFF).wf ∧ (Instr.ldaImm 0xFF).wf ∧ Instr.brk.wf := by decide

/-! Decoding (30 R94 and the examples of 30 and 95). -/

theorem test_decode_load_store : decoded [0xA9, 0x05] = some (.ldaImm 0x05) ∧ decoded [0xB6, 0xF0] = some (.ldxZpY 0xF0) ∧
    decoded [0xAC, 0x10, 0x00] = some (.ldyAbs 0x0010) ∧ decoded [0x9D, 0xFF, 0x12] = some (.staAbsX 0x12FF) ∧
    decoded [0x96, 0x10] = some (.stxZpY 0x10) ∧ decoded [0xBA] = some .tsx := by decide
theorem test_decode_arithmetic : decoded [0x69, 0x50] = some (.adcImm 0x50) ∧ decoded [0xF9, 0x00, 0x12] = some (.sbcAbsY 0x1200) ∧
    decoded [0x24, 0x10] = some (.bitZp 0x10) ∧ decoded [0xC9, 0x40] = some (.cmpImm 0x40) ∧
    decoded [0xFE, 0xFF, 0x12] = some (.incAbsX 0x12FF) ∧ decoded [0x88] = some .dey := by decide
theorem test_decode_shift : decoded [0x0A] = some .aslAcc ∧ decoded [0x5E, 0xFF, 0x00] = some (.lsrAbsX 0x00FF) ∧
    decoded [0x76, 0xF0] = some (.rorZpX 0xF0) ∧ decoded [0x2A] = some .rolAcc := by decide
theorem test_decode_control : decoded [0xD0, 0xFD] = some (.bne (-3)) ∧ decoded [0x90, 0x7F] = some (.bcc 127) ∧
    decoded [0xB0, 0x80] = some (.bcs (-128)) ∧ decoded [0x6C, 0xFF, 0x02] = some (.jmpInd 0x02FF) ∧
    decoded [0x20, 0x34, 0x12] = some (.jsr 0x1234) ∧ decoded [0x60] = some .rts := by decide
theorem test_decode_system : decoded [0x00] = some .brk ∧ decoded [0x40] = some .rti ∧ decoded [0x08] = some .php ∧
    decoded [0x28] = some .plp ∧ decoded [0xF8] = some .sed ∧ decoded [0xEA] = some .nop := by decide
theorem test_decode_rejects : (decode [0x02, 0x00]).toOption = none ∧ (decode [0xA9]).toOption = none ∧
    (decode [0x20, 0x34]).toOption = none ∧ (decode []).toOption = none := by decide
/-- A table word numbers the first byte's bits from 0; the opcode table gives a row 8 to 24 bits. -/
theorem test_table_word : decodeTableWord 24 0x1234BD = some (.ldaAbsX 0x1234) ∧ decodeTableWord 8 0xBD = some (.ldaAbsX 0) ∧
    decodeTableWord 16 0xFDD0 = some (.bne (-3)) ∧ decodeTableWord 8 0x02 = none := by decide
theorem test_encode : encode (.ldaAbsX 0x1234) = [0xBD, 0x34, 0x12] ∧ encode (.bne (-3)) = [0xD0, 0xFD] ∧ encode .brk = [0x00] := by
  decide
/-- `withFetchWord` places the instruction where the next step fetches it. -/
theorem test_with_fetch_word : (after (State.reset.withFetchWord 16 0x05A9)).A = 0x05 ∧
    (after (State.reset.withFetchWord 24 0x123420)).PC = 0x1234 := by decide

/-- The build-time checks of 30 R95: 151 rows with rising opcode bytes, so none twice, and every one of the 56 mnemonics has one. -/
theorem test_table_rows : let ops := opcodeTable.map fun r => r.opcode.toNat
    ops.length = 151 ∧ (ops.zip ops.tail).all fun p => p.1 < p.2 := by decide +kernel
theorem test_table_mnemonics : mnemonicNames.length = 56 ∧
    mnemonicNames.all fun m => opcodeTable.any fun r => r.mnemonic == m.1 := by decide +kernel
/-- The examples of 30 R100. -/
theorem test_assembler_text : assemblerText .aslAcc 0 = ['A', 'S', 'L', ' ', 'A'] ∧ assemblerText .clc 0 = ['C', 'L', 'C'] ∧
    operandText (Instr.ldaImm 0x05).operand 0 = ['#', '$', '0', '5'] ∧
    operandText (Instr.jmpInd 0x02FF).operand 0 = ['(', '$', '0', '2', 'F', 'F', ')'] ∧
    operandText (Instr.ldaXInd 0x10).operand 0 = ['(', '$', '1', '0', ',', 'X', ')'] ∧
    operandText (Instr.ldaIndY 0x10).operand 0 = ['(', '$', '1', '0', ')', ',', 'Y'] ∧
    operandText (Instr.bne 5).operand 0x0600 = ['$', '0', '6', '0', '7'] ∧ branchDisplacement 0x0607 0x0600 = some 5 ∧
    branchDisplacement 0x0682 0x0600 = none := by decide

/-! One Step of each family (95 L2). -/

theorem test_lda_flags : apc (code 0x0600 [0xA9, 0x00]) = (0x00, 0x02, 2) ∧ apc (code 0x0600 [0xA9, 0x80]) = (0x80, 0x80, 2) := by
  decide
theorem test_lda_absx_crosses :
    apc (((code 0x0600 [0xBD, 0xFF, 0x12]).setX 0x01).write 0x1300 0x01) = (0x01, 0x00, 5) ∧
    apc (((code 0x0600 [0xBD, 0x00, 0x12]).setX 0xFF).write 0x12FF 0x02) = (0x02, 0x00, 4) := by decide
theorem test_lda_indirect_wraps :
    apc ((((code 0x0600 [0xA1, 0xFF]).write 0x00FF 0x34).write 0x0000 0x12).write 0x1234 0x04) = (0x04, 0x00, 6) ∧
    apc (((((code 0x0600 [0xB1, 0xFF]).setY 0x10).write 0x00FF 0xF8).write 0x0000 0x20).write 0x2108 0x06) = (0x06, 0x00, 6) := by
  decide
theorem test_lda_imm_at_ffff : let t := after (code 0xFFFF [0xA9, 0x42]); t.A = 0x42 ∧ t.PC = 0x0001 := by decide
theorem test_ldx_zpy_wraps : (after (((code 0x0600 [0xB6, 0xF0]).setY 0x20).write 0x0010 0x66)).X = 0x66 := by decide
theorem test_ldy_abs : let t := after ((code 0x0600 [0xAC, 0x10, 0x00]).write 0x0010 0xFF); t.Y = 0xFF ∧ t.P = 0x80 := by decide
theorem test_sta_pays_no_penalty :
    let t := after (((code 0x0600 [0x9D, 0xFF, 0x12]).setA 0x99).setX 0x01)
    t.read 0x1300 = 0x99 ∧ t.remaining = 4 ∧ t.P = 0x00 := by decide
theorem test_stx_sty : (after (((code 0x0600 [0x96, 0x10]).setX 0x77).setY 0xF5)).read 0x0005 = 0x77 ∧
    (after ((code 0x0600 [0x8C, 0x00, 0x02]).setP 0x02)).P = 0x02 := by decide
theorem test_transfers : (after ((code 0x0600 [0xAA]).setA 0x80)).X = 0x80 ∧ (after ((code 0x0600 [0xA8]).setY 0x05)).Y = 0x00 ∧
    (after (((code 0x0600 [0x8A]).setX 0x7F).setP 0x80)).P = 0x00 ∧ (after ((code 0x0600 [0x98]).setA 0x01)).A = 0x00 ∧
    (after (code 0x0600 [0xBA])).X = 0xFF ∧ (after (code 0x0600 [0x9A])).SP = 0x00 ∧ (after (code 0x0600 [0x9A])).P = 0x00 := by
  decide
theorem test_adc_overflow : apc ((code 0x0600 [0x69, 0x50]).setA 0x50) = (0xA0, 0xC0, 2) ∧
    apc (((code 0x0600 [0x69, 0xFF]).setA 0xFF).setP 0x01) = (0xFF, 0x81, 2) := by decide
theorem test_adc_ignores_decimal : apc (((code 0x0600 [0x69, 0x09]).setA 0x09).setP 0x08) = (0x12, 0x08, 2) := by decide
theorem test_sbc_borrow : apc ((code 0x0600 [0xE9, 0x00]).setA 0x00) = (0xFF, 0x80, 2) ∧
    apc (((code 0x0600 [0xE9, 0x01]).setA 0x80).setP 0x01) = (0x7F, 0x41, 2) := by decide
theorem test_logic : apc ((code 0x0600 [0x29, 0x0F]).setA 0xF0) = (0x00, 0x02, 2) ∧
    apc ((code 0x0600 [0x09, 0x80]).setA 0x01) = (0x81, 0x80, 2) ∧ apc ((code 0x0600 [0x49, 0xFF]).setA 0xFF) = (0x00, 0x02, 2) := by
  decide
theorem test_bit : apc (((code 0x0600 [0x24, 0x10]).setA 0x01).write 0x0010 0xC0) = (0x01, 0xC2, 3) ∧
    apc ((((code 0x0600 [0x2C, 0x10, 0x00]).setA 0xFF).setP 0xC0).write 0x0010 0x01) = (0xFF, 0x00, 4) := by decide
theorem test_compare : apc ((code 0x0600 [0xC9, 0x41]).setA 0x40) = (0x40, 0x80, 2) ∧
    apc ((code 0x0600 [0xC9, 0x01]).setA 0xFF) = (0xFF, 0x81, 2) ∧ (after (code 0x0600 [0xE0, 0x00])).P = 0x03 ∧
    (after (((code 0x0600 [0xC4, 0x10]).setY 0x10).write 0x0010 0x20)).P = 0x80 := by decide
theorem test_inc_dec_memory :
    let t := after (((code 0x0600 [0xFE, 0xFF, 0x12]).setX 0x01).write 0x1300 0x7F)
    t.read 0x1300 = 0x80 ∧ t.P = 0x80 ∧ t.remaining = 6 ∧ (after (code 0x0600 [0xC6, 0x10])).read 0x0010 = 0xFF := by decide
theorem test_inc_dec_index : (after ((code 0x0600 [0xE8]).setX 0xFF)).P = 0x02 ∧ (after ((code 0x0600 [0xC8]).setY 0x7F)).Y = 0x80 ∧
    (after ((code 0x0600 [0xCA]).setX 0x01)).P = 0x02 ∧ (after (code 0x0600 [0x88])).Y = 0xFF := by decide
theorem test_shifts : apc (((code 0x0600 [0x0A]).setA 0x41).setP 0x01) = (0x82, 0x80, 2) ∧
    apc (((code 0x0600 [0x4A]).setA 0x01).setP 0x80) = (0x00, 0x03, 2) ∧
    apc (((code 0x0600 [0x2A]).setA 0x40).setP 0x01) = (0x81, 0x80, 2) ∧
    apc (((code 0x0600 [0x6A]).setA 0x01).setP 0x01) = (0x80, 0x81, 2) := by decide
theorem test_shift_memory :
    let t := after (((code 0x0600 [0x5E, 0xFF, 0x00]).setX 0x11).write 0x0110 0x03)
    let u := after (((code 0x0600 [0x76, 0xF0]).setX 0x20).setP 0x01)
    t.read 0x0110 = 0x01 ∧ t.P = 0x01 ∧ t.remaining = 6 ∧ u.read 0x0010 = 0x80 ∧ u.P = 0x80 := by decide
theorem test_branch_cost : let s := code 0x0600 [0xD0, 0x05]; let u := after (code 0x0600 [0xD0, 0xFD])
    (after (s.setP 0x02)).PC = 0x0602 ∧ (after (s.setP 0x02)).remaining = 1 ∧ (after s).PC = 0x0607 ∧ (after s).remaining = 2 ∧
    u.PC = 0x05FF ∧ u.remaining = 3 := by decide
theorem test_branch_page_from_advanced_pc : let t := after (code 0x06FD [0xD0, 0x05]); let u := after (code 0xFF80 [0xD0, 0x7F])
    t.PC = 0x0704 ∧ t.remaining = 3 ∧ u.PC = 0x0001 ∧ u.remaining = 3 := by decide
theorem test_branch_polarity : (after (code 0x0600 [0x90, 0x7F])).PC = 0x0681 ∧
    (after ((code 0x0600 [0xB0, 0x80]).setP 0x01)).PC = 0x0582 ∧ (after ((code 0x0600 [0xF0, 0xFE]).setP 0x02)).PC = 0x0600 ∧
    (after ((code 0x0600 [0x30, 0x10]).setP 0x80)).PC = 0x0612 ∧ (after ((code 0x0600 [0x10, 0x10]).setP 0x80)).PC = 0x0602 ∧
    (after (code 0x0600 [0x50, 0x10])).PC = 0x0612 ∧ (after ((code 0x0600 [0x70, 0x10]).setP 0x40)).PC = 0x0612 := by decide
theorem test_jmp_page_bug :
    (after ((((code 0x0600 [0x6C, 0xFF, 0x02]).write 0x02FF 0x00).write 0x0200 0x07).write 0x0300 0x08)).PC = 0x0700 ∧
    (after (code 0x0600 [0x4C, 0x34, 0x12])).PC = 0x1234 := by decide
theorem test_jsr_stack_wraps : let t := after ((code 0x0600 [0x20, 0x00, 0x07]).setSP 0x00)
    t.read 0x0100 = 0x06 ∧ t.read 0x01FF = 0x02 ∧ t.SP = 0xFE ∧ t.PC = 0x0700 ∧ t.remaining = 5 := by decide
theorem test_rts : let t := after ((((code 0x0600 [0x60]).setSP 0xFD).write 0x01FE 0x02).write 0x01FF 0x06)
    t.PC = 0x0603 ∧ t.SP = 0xFF := by decide
theorem test_pha_pla_wrap : let t := after (((code 0x0600 [0x48]).setA 0x5A).setSP 0x00)
    let u := after ((code 0x0600 [0x68]).write 0x0100 0x80)
    t.read 0x0100 = 0x5A ∧ t.SP = 0xFF ∧ u.A = 0x80 ∧ u.SP = 0x00 ∧ u.P = 0x80 := by decide
theorem test_php_plp : (after ((code 0x0600 [0x08]).setP 0xC3)).read 0x01FF = 0xF3 ∧ (after (code 0x0600 [0x08])).P = 0x00 ∧
    (after (((code 0x0600 [0x28]).setSP 0xFE).write 0x01FF 0xFF)).P = 0xCF := by decide
theorem test_flag_instructions : (after ((code 0x0600 [0x18]).setP 0xFF)).P = 0xFE ∧ (after (code 0x0600 [0x38])).P = 0x01 ∧
    (after ((code 0x0600 [0x58]).setP 0x04)).P = 0x00 ∧ (after (code 0x0600 [0x78])).P = 0x04 ∧
    (after ((code 0x0600 [0xD8]).setP 0x08)).P = 0x00 ∧ (after (code 0x0600 [0xF8])).P = 0x08 ∧
    (after ((code 0x0600 [0xB8]).setP 0x40)).P = 0x00 := by decide
theorem test_brk : let t := after (((code 0x0600 [0x00]).setP 0x01).write 0xFFFF 0x80)
    t.read 0x01FF = 0x06 ∧ t.read 0x01FE = 0x02 ∧ t.read 0x01FD = 0x31 ∧ t.SP = 0xFC ∧ t.P = 0x05 ∧ t.PC = 0x8000 ∧
    t.remaining = 6 := by decide
theorem test_brk_stack_wraps : let t := after ((((code 0x0600 [0x00]).setP 0x04).setSP 0x01).write 0xFFFF 0x80)
    t.read 0x0101 = 0x06 ∧ t.read 0x0100 = 0x02 ∧ t.read 0x01FF = 0x34 ∧ t.SP = 0xFE ∧ t.P = 0x04 := by decide
theorem test_rti : let t := after (((((code 0x0600 [0x40]).setSP 0xFC).write 0x01FD 0xF3).write 0x01FE 0x34).write 0x01FF 0x12)
    t.P = 0xC3 ∧ t.PC = 0x1234 ∧ t.SP = 0xFF := by decide
theorem test_nop : after (((code 0x0600 [0xEA]).setA 0x01).setP 0xA5) =
    (((((code 0x0600 [0xEA]).setA 0x01).setP 0xA5).setPC 0x0601).setRemaining 1).setTotal 1 := by decide

/-! The sequencer and the host interface (95 L2, S1 to S13). -/

/-- The state of S3: a decode error just latched. -/
def latched : State := after ((code 0x0600 [0x02]).setTotal 5)

theorem test_s1_s2 : let t := after (code 0x0600 [0xA9, 0x05])
    stepResult (code 0x0600 [0xA9, 0x05]) = .dispatched .LDA .imm 0xA9 0x0600 ∧ t.A = 0x05 ∧ t.PC = 0x0602 ∧ t.remaining = 1 ∧
    t.total = 1 ∧ stepResult t = .ticked ∧ after t = (t.setRemaining 0).setTotal 2 := by decide
theorem test_s3_s4 : latched = ((code 0x0600 [0x02]).setTotal 5).setHalted (some ⟨0x02, 0x0600⟩) ∧
    stepResult latched = .decodeError 0x02 0x0600 ∧ after latched = latched := by decide
theorem test_s5_s6 : resumePast latched = (latched.setPC 0x0601).setHalted none ∧
    resumePast (code 0x0600 [0xEA]) = code 0x0600 [0xEA] := by decide
theorem test_s7_s8 : let s := (after ((code 0x0600 [0xA9, 0x05]).write 0xFFFD 0x06)).setP 0xC3
    let t := hostReset true s
    t.PC = 0x0600 ∧ t.SP = 0xFF ∧ t.P = 0x00 ∧ t.A = 0x05 ∧ t.remaining = 0 ∧ t.total = 1 ∧ (hostReset false s).P = 0xC3 := by
  decide
theorem test_s10 : let t := hostLoad [0x11, 0x22, 0x33] 0xFFFE State.reset
    t.read 0xFFFE = 0x11 ∧ t.read 0xFFFF = 0x22 ∧ t.read 0x0000 = 0x33 := by decide
theorem test_s13 : stepResult (powerOn ⟨0x12, 0x34, 0x56, 0x78, 0x9ABC, 0xFF⟩) = .dispatched .BRK .imp 0x00 0x9ABC := by decide
/-- Equal memories are equal data: writing what an unlisted byte reads as unlists it. -/
theorem test_memory_canonical : ((State.reset.write 0x20 0x01).write 0x10 0x02).mem = [(0x10, 0x02), (0x20, 0x01)] ∧
    ((State.reset.write 0x20 0x01).write 0x20 0x00).mem = [] := by decide

/-! Witnesses: for each obligation with hypotheses, a concrete input that meets all of them. -/

/-- `DecodeOfEncodeIsTheInstruction`: both ends of the displacement and of each operand width. -/
theorem witness_decode_of_encode : (Instr.bne (-128)).wf ∧ decoded (encode (.bne (-128)) ++ [0x99]) = some (.bne (-128)) ∧
    decoded (encode (.bne 127)) = some (.bne 127) ∧ decoded (encode (.jsr 0xFF00)) = some (.jsr 0xFF00) ∧
    decoded (encode (.ldaZp 0xFF)) = some (.ldaZp 0xFF) := by decide
/-- `EncodeOfDecodedIsTheBytes`, `OperandBytesAreAssembled` and `FirstByteDecidesRowAndLength`: bytes of every mode, and each end
of the displacement. -/
theorem witness_decode_modes : decoded [0xA9, 0xFF, 0x01] = some (.ldaImm 0xFF) ∧ decoded [0xA5, 0xFF, 0x01] = some (.ldaZp 0xFF) ∧
    decoded [0xB5, 0xFF, 0x01] = some (.ldaZpX 0xFF) ∧ decoded [0xB6, 0xFF, 0x01] = some (.ldxZpY 0xFF) ∧
    decoded [0xA1, 0xFF, 0x01] = some (.ldaXInd 0xFF) ∧ decoded [0xB1, 0xFF, 0x01] = some (.ldaIndY 0xFF) ∧
    decoded [0xAD, 0xFF, 0x01] = some (.ldaAbs 0x01FF) ∧ decoded [0xBD, 0xFF, 0x01] = some (.ldaAbsX 0x01FF) ∧
    decoded [0xB9, 0xFF, 0x01] = some (.ldaAbsY 0x01FF) ∧ decoded [0x6C, 0xFF, 0x01] = some (.jmpInd 0x01FF) ∧
    decoded [0xD0, 0x7F, 0x01] = some (.bne 127) ∧ decoded [0xD0, 0x80, 0x01] = some (.bne (-128)) ∧
    decoded [0xD0, 0x00] = some (.bne 0) := by decide
/-- `FirstByteDecidesRowAndLength`: instructions of one, two and three bytes (30 R90) leave the rest of the list. -/
theorem witness_length : (decode [0x0A, 0x01, 0x02]).toOption = some (.aslAcc, [0x01, 0x02]) ∧
    (decode [0xB1, 0x01, 0x02]).toOption = some (.ldaIndY 0x01, [0x02]) ∧
    (decode [0x6C, 0x01, 0x02]).toOption = some (.jmpInd 0x0201, []) := by decide
/-- `UndefinedOpcodesHaveNoTableEntry`: the first and the last undefined byte, and a defined one. -/
theorem witness_undefined_opcode : (lookupOpcode 0x02).isNone ∧ (lookupOpcode 0xFF).isNone ∧ (lookupOpcode 0x00).isSome ∧
    (lookupOpcode 0xFE).isSome := by decide
/-- `StepRunsTheDecodedInstruction`, `InstructionCostsItsCyclesInSteps` and `ImmediateOperandIsTheByteRead`: an instruction at PC,
wrapped past 0xFFFF, with nothing in flight or latched. -/
theorem witness_dispatch : let s := code 0xFFFF [0xA9, 0x42]
    s.halted = none ∧ s.remaining = 0 ∧ decoded [s.read s.PC, s.read (s.PC + 1), s.read (s.PC + 2)] = some (.ldaImm 0x42) ∧
    (Instr.ldaImm 0x42).operand = .mem (.imm 0x42) ∧ s.read (resolveMem (.imm 0x42) (s.advance 2)).address = 0x42 := by decide
/-- `CountingStepOnlyTicks` and `EveryStepIsCountedUnlessHalted`: both ends of the countdown. -/
theorem witness_counting : let s := State.reset.setRemaining 1; let u := State.reset.setRemaining 6
    s.halted = none ∧ 0 < s.remaining ∧ (after s).remaining = 0 ∧ u.halted = none ∧ 0 < u.remaining ∧ (after u).remaining = 5 := by
  decide
/-- `UndefinedOpcodeLatchesAndHalts`: an undefined byte at PC, and a latched state. -/
theorem witness_decode_error : let s := code 0x0600 [0x02]
    s.halted = none ∧ s.remaining = 0 ∧ (lookupOpcode (s.read s.PC)).isNone ∧ latched.halted = some ⟨0x02, 0x0600⟩ := by decide
/-- `StepKeepsTheInvariant` and `HostOperationsKeepTheInvariant`: an idle, an in-flight and a latched state with the invariant. -/
theorem witness_invariant : State.reset.Inv ∧ (after (code 0x0600 [0x00])).Inv ∧ latched.Inv :=
  ⟨⟨by decide, by decide, by decide⟩, ⟨by decide, by decide, by decide⟩, ⟨by decide, by decide, by decide⟩⟩
/-- `LatchLeftOnlyByResetOrResumePast`: the two operations that leave the latch. -/
theorem witness_latch_left : latched.halted ≠ none ∧ (hostReset true latched).halted = none ∧ (resumePast latched).halted = none ∧
    hostOp (.reset true) latched = .next (hostReset true latched) ∧ hostOp .resumePast latched = .next (resumePast latched) :=
  ⟨by decide, by decide, by decide, rfl, rfl⟩
/-- `PagePenaltyOnlyForTheNineReads`: a read and a store whose address crosses a page, a read whose address does not, and the three
modes of its last clause. -/
theorem witness_page_penalty : let s := State.reset.setX 0x01
    resolve (Instr.ldaAbsX 0x12FF).operand (s.advance 3) = .mem (.addrPC 0x1300 true) ∧
    resolve (Instr.staAbsX 0x12FF).operand (s.advance 3) = .mem (.addrPC 0x1300 true) ∧
    resolve (Instr.ldaAbsX 0x12FE).operand (s.advance 3) = .mem (.addrPC 0x12FF false) ∧
    (∀ r ∈ [Instr.ldaAbsX 0, .staAbsX 0, .ldaAbsY 0, .staIndY 0], r.operand ≠ .imp ∧ (r.mode = .absX ∨ r.mode = .absY ∨ r.mode = .indY)) ∧
    (Instr.ldaAbsX 0).tableBase = some 4 ∧ (Instr.staAbsX 0).tableBase = some 5 := by
  decide
/-- The three frames over every instruction: a register, a flag, and a byte of memory that an instruction does write. -/
theorem witness_frames : ∃ t u v, exec .tax (State.reset.setA 0x80) = .next t ∧ t.X = 0x80 ∧ t.flag .N = true ∧
    exec .pha (State.reset.setA 0x80) = .next u ∧ u.read 0x01FF = 0x80 ∧ storedAddrs .pha State.reset = [0x01FF] ∧
    exec (.incZp 0x10) State.reset = .next v ∧ v.read 0x0010 = 0x01 ∧ storedAddrs (.incZp 0x10) State.reset = [0x0010] :=
  ⟨_, _, _, rfl, by decide, by decide, rfl, by decide, by decide, rfl, by decide, by decide⟩
/-- `BreakAndUnusedBitsNeverBecomeSet`: PLP of 0xFF with both bits clear, and every other kind of operation answers too. -/
theorem witness_break_bits : let s := ((code 0x0600 [0x28]).setSP 0xFE).write 0x01FF 0xFF
    s.flag .B = false ∧ s.flag .U = false ∧ (∃ t, hostOp .step s = .next t) ∧ (after s).flag .C = true ∧ (after s).flag .B = false ∧
    (after s).flag .U = false :=
  ⟨by decide, by decide, ⟨_, rfl⟩, by decide, by decide, by decide⟩
/-- `DecimalFlagDoesNotChangeArithmetic` (42 R201): each mnemonic with D set, on operands whose BCD result would differ. -/
theorem witness_decimal : ∃ t u, (Instr.adcImm 0x09).mnemonic = .ADC ∧ (Instr.sbcImm 0x09).mnemonic = .SBC ∧
    exec (.adcImm 0x09) ((code 0x0600 [0x69, 0x09]).setA 0x09 |>.setFlag .D true) = .next t ∧ t.A = 0x12 ∧ t.flag .C = false ∧
    exec (.sbcImm 0x09) ((code 0x0600 [0xE9, 0x09]).setA 0x00 |>.setFlag .D true) = .next u ∧ u.A = 0xF6 ∧ u.flag .C = false :=
  ⟨_, _, rfl, rfl, rfl, by decide, by decide, rfl, by decide, by decide⟩
/-- `DirectModesResolve` and `IndexedAndIndirectModesResolve`: an instruction of each restricted mode. -/
theorem witness_restricted_modes : Instr.rolAcc.mode = .acc ∧ (Instr.ldxZpY 0).mode = .zpY ∧ (Instr.bvs 0).mode = .rel ∧
    (Instr.jmpInd 0).mode = .ind := by decide
/-- `PageCrossingIsAHighByteChange` at its boundaries (95 L1-4, 40 R129 and R133): crossed, just not crossed, and wrapped. -/
theorem witness_page_crossing : let s := (State.reset.setX 0x01).setY 0x01
    resolveMem (.absX 0x00FF) s = .addrPC 0x0100 true ∧ resolveMem (.absX 0x0100) s = .addrPC 0x0101 false ∧
    resolveMem (.absY 0xFFFF) s = .addrPC 0x0000 true ∧
    readWordInPage (s.write 0x0010 0xFF) (zeroPage 0x10) = 0x00FF ∧
    resolveMem (.indY 0x10) (s.write 0x0010 0xFF) = .addrPC 0x0100 true ∧
    resolveMem (.indY 0x10) (s.write 0x0010 0xFE) = .addrPC 0x00FF false := by decide
/-- `BranchesTestOneFlag`: both ends of the displacement, taken and not taken. -/
theorem witness_branch : (-128 ≤ (-128 : Int) ∧ (-128 : Int) ≤ 127) ∧ (-128 ≤ (127 : Int) ∧ (127 : Int) ≤ 127) ∧
    ∃ t u, exec (.bcs (-128)) ((State.reset.setPC 0x0600).setP 0x01) = .next t ∧ t.PC = 0x0582 ∧
      exec (.bcs 127) (State.reset.setPC 0x0600) = .next u ∧ u.PC = 0x0602 :=
  ⟨by decide, by decide, _, _, rfl, by decide, rfl, by decide⟩
/-- `SubroutineCallReturnsAfterIt` (95 L1-7). -/
theorem witness_call_return : ∃ t u, exec (.jsr 0x1234) (State.reset.setPC 0x0600) = .next t ∧ exec .rts t = .next u ∧ u.PC = 0x0603 :=
  ⟨_, _, rfl, rfl, by decide⟩
/-- `PulledAIsThePushedA` (95 L1-6), with A and P changed in between. -/
theorem witness_push_pull : ∃ t v, exec .pha (State.reset.setA 0x80) = .next t ∧ ((t.setA 0x00).setP 0xFF).SP = t.SP ∧
    SameMemory t ((t.setA 0x00).setP 0xFF) ∧ exec .pla ((t.setA 0x00).setP 0xFF) = .next v ∧ v.A = 0x80 :=
  ⟨_, _, rfl, rfl, fun _ => rfl, rfl, by decide⟩
/-- `TrapReturnRestoresTheInterruptedState` (95 P5). -/
theorem witness_trap_return : ∃ t u, exec .brk (State.reset.setPC 0x0600) = .next t ∧ exec .rti t = .next u ∧ u.PC = 0x0602 :=
  ⟨_, _, rfl, rfl, by decide⟩
/-- `PushAndPullWrapInTheStackPage`: both ends of SP. -/
theorem witness_stack_ends : (State.reset.setSP 0x00).SP = 0x00 ∧ (((State.reset.setSP 0x00).push 0x5A).read 0x0100 = 0x5A) ∧
    State.reset.SP = 0xFF ∧ State.reset.pop.SP = 0x00 := by decide
/-- `MemoryHoldsTheLastByteWritten` and `InspectShowsTheWholeState`: canonical memories that read alike, another address, and two
states that Inspect shows alike. -/
theorem witness_memory : (State.reset.write 0x20 0x01).mem.wf ∧ (0x21 : Address) ≠ 0x20 ∧
    ((State.reset.write 0x20 0x01).write 0x21 0x00).mem = (State.reset.write 0x20 0x01).mem ∧
    inspect ((State.reset.write 0x20 0x01).write 0x21 0x00) = inspect (State.reset.write 0x20 0x01) := by decide
/-- `LoadCopiesTheImage`: an image that wraps past 0xFFFF, no address written twice, and an address outside it. -/
theorem witness_load : ((0xFFFF : Address) + BitVec.ofNat 16 1 ≠ 0xFFFF + BitVec.ofNat 16 0) ∧
    (hostLoad [0xAA, 0xBB] 0xFFFF State.reset).read 0xFFFF = 0xAA ∧ (hostLoad [0xAA, 0xBB] 0xFFFF State.reset).read 0x0000 = 0xBB ∧
    (∀ i < 2, (0x0001 : Address) ≠ 0xFFFF + BitVec.ofNat 16 i) := by decide
/-- `ResumePastSkipsOneByte`: a latched state and one that is not. -/
theorem witness_resume : latched.halted = some ⟨0x02, 0x0600⟩ ∧ State.reset.halted = none := by decide

end Sys2Proof.Tests
end

section
/-! PROOFS. The stack of 20 R71 to R73: where Push and Pull leave SP, which byte they touch, and that no stack address leaves page 1. -/

namespace Sys2Proof.Machine

/-- Whatever SP is, the stack address lies in page 1 (20 R73). -/
theorem stackAddr_mem_stackPage (sp : Byte) : 0x0100 ≤ (stackAddr sp).toNat ∧ (stackAddr sp).toNat ≤ 0x01FF := by
  have hlt := sp.isLt
  rw [stackAddr_toNat]
  omega

/-- The byte pushed stands at `0x0100 + SP`, for the SP before the push (20 R71). -/
theorem push_read_stackAddr (s : State) (v : Byte) : (s.push v).read (stackAddr s.SP) = v := by
  rw [push_read, if_pos rfl]

/-- The frame of a push: every byte but the one at `0x0100 + SP`. -/
theorem push_sameMemoryExcept (s : State) (v : Byte) : SameMemoryExcept [stackAddr s.SP] s (s.push v) := by
  intro a ha
  have hne : stackAddr s.SP ≠ a := fun h => ha (List.mem_singleton.mpr h.symm)
  rw [push_read, if_neg hne]

/-- Push decrements SP modulo 256 (20 R71). -/
theorem push_SP_toNat (s : State) (v : Byte) : (s.push v).SP.toNat = (s.SP.toNat + 255) % 256 := by
  rw [push_SP, BitVec.toNat_sub, Nat.add_comm]
  rfl

/-- Pull increments SP modulo 256 (20 R72). -/
theorem pop_SP_toNat (s : State) : s.pop.SP.toNat = (s.SP.toNat + 1) % 256 := by
  rw [pop_SP, BitVec.toNat_add]
  rfl

/-- At the low end of page 1 a push writes 0x0100 and SP wraps to the high end (20 R73). -/
theorem push_wraps_of_SP_eq_zero {s : State} (h : s.SP = 0x00) (v : Byte) :
    (s.push v).read 0x0100 = v ∧ (s.push v).SP = 0xFF := by
  constructor
  · have hread := push_read_stackAddr s v
    rwa [h] at hread
  · rw [push_SP, h]
    rfl

/-- At the high end of page 1 a pull wraps SP to 0x00 and reads 0x0100 (20 R73). -/
theorem pop_wraps_of_SP_eq_ff {s : State} (h : s.SP = 0xFF) : s.pop.SP = 0x00 ∧ s.top = s.read 0x0100 := by
  constructor
  · rw [pop_SP, h]
    rfl
  · rw [top_eq, h]
    rfl

/-- Settles O54, from the rules of Push and Pull and the wrap at either end of SP. -/
theorem pushAndPullWrapInTheStackPage : Obligations.PushAndPullWrapInTheStackPage := by
  intro s v
  obtain ⟨htop, hSP⟩ := top_push s v
  exact ⟨stackAddr_toNat s.SP, push_read_stackAddr s v, push_sameMemoryExcept s v, push_SP_toNat s v, pop_SP_toNat s,
    pop_read s, rfl, htop, hSP, fun h => push_wraps_of_SP_eq_zero h v, pop_wraps_of_SP_eq_ff, stackAddr_mem_stackPage⟩

end Sys2Proof.Machine
end

section
/-! PROOFS. How a decode assembles its operand (30 R92): an operand is determined by its mode and its encoded bytes, and those bytes
are the ones that follow the opcode. -/

namespace Sys2Proof

/-- `sext8` as integers (30 R92). -/
theorem sext8_eq_ite (b : Byte) : sext8 b = if b.toNat ≥ 0x80 then (b.toNat : Int) - 256 else b.toNat := by
  unfold sext8
  rw [BitVec.toInt_eq_toNat_cond]
  split <;> split <;> omega

/-- Sign extension undoes the encoding of a displacement in range. -/
theorem sext8_ofInt {d : Int} (hlo : -128 ≤ d) (hhi : d ≤ 127) : sext8 (BitVec.ofInt 8 d) = d := by
  unfold sext8
  rw [BitVec.toInt_ofInt]
  exact Int.bmod_eq_of_le (by omega) (by omega)

/-- The operand that the bytes `b1`, `b2` after an opcode of mode `m` stand for (30 R92). -/
def Mode.operandOf (m : Mode) (b1 b2 : Byte) : Operand :=
  match m with
  | .acc => .acc
  | .imp => .imp
  | .imm => .mem (.imm b1)
  | .zp => .mem (.zp b1)
  | .zpX => .mem (.zpX b1)
  | .zpY => .mem (.zpY b1)
  | .rel => .rel (sext8 b1)
  | .xInd => .mem (.xInd b1)
  | .indY => .mem (.indY b1)
  | .abs => .mem (.abs (wordOf b2 b1))
  | .absX => .mem (.absX (wordOf b2 b1))
  | .absY => .mem (.absY (wordOf b2 b1))
  | .ind => .mem (.ind (wordOf b2 b1))

/-- A memory operand is the one its mode makes of its encoded bytes. -/
theorem MemForm.eq_operandOf {f : MemForm} {b1 b2 : Byte} (h : f.bytes = f.mode.format.operands b1 b2) :
    Operand.mem f = f.mode.operandOf b1 b2 := by
  cases f
  case imm | zp | zpX | zpY | xInd | indY =>
    obtain ⟨⟩ := h
    rfl
  case abs | absX | absY | ind =>
    obtain ⟨⟩ := h
    simp [MemForm.mode, Mode.operandOf]

/-- A well-formed operand is the one its mode makes of its encoded bytes. -/
theorem Operand.eq_operandOf {o : Operand} {b1 b2 : Byte} (hwf : o.wf) (h : o.bytes = o.mode.format.operands b1 b2) :
    o = o.mode.operandOf b1 b2 := by
  cases o with
  | acc => rfl
  | imp => rfl
  | mem f => exact f.eq_operandOf h
  | rel d =>
    obtain ⟨hlo, hhi⟩ := of_decide_eq_true hwf
    obtain ⟨⟩ := h
    exact congrArg Operand.rel (sext8_ofInt hlo hhi).symm

/-- The operand bytes a format takes from the head of a list are the list's first bytes. -/
theorem Format.operands_eq_of_append {f : Format} {b1 b2 c1 c2 : Byte} {tail rest : List Byte}
    (h : b1 :: b2 :: tail = f.operands c1 c2 ++ rest) : f.operands c1 c2 = f.operands b1 b2 := by
  cases f with
  | one => rfl
  | two =>
    obtain ⟨⟩ := h
    rfl
  | three =>
    obtain ⟨⟩ := h
    rfl

/-- A decoded instruction is well formed, and its operand encodes to the bytes that follow the opcode. -/
theorem decode_operand_bytes {op b1 b2 : Byte} {tail rest : List Byte} {i : Instr}
    (h : decode (op :: b1 :: b2 :: tail) = .ok (i, rest)) :
    i.wf ∧ i.operand.bytes = i.mode.format.operands b1 b2 := by
  obtain ⟨_, r, c1, c2, hr, rfl, hread⟩ := decode_cases h
  have hsound := (lookup_sound hr).2
  have hencoded : (r.build c1 c2).operand.bytes = r.mode.format.operands c1 c2 := (List.cons.inj (hsound.bytes c1 c2)).2
  refine ⟨hsound.wf c1 c2, ?_⟩
  rw [hencoded, hsound.mode]
  exact Format.operands_eq_of_append (List.cons.inj hread).2

/-- A decoded operand is the one the instruction's mode makes of the bytes after the opcode (30 R92). -/
theorem decode_operand {op b1 b2 : Byte} {tail rest : List Byte} {i : Instr}
    (h : decode (op :: b1 :: b2 :: tail) = .ok (i, rest)) : i.operand = i.mode.operandOf b1 b2 :=
  have ⟨hwf, hbytes⟩ := decode_operand_bytes h
  Operand.eq_operandOf hwf hbytes

/-- Settles O3, by reading the operand of each mode off `decode_operand`. -/
theorem operandBytesAreAssembled : Obligations.OperandBytesAreAssembled := by
  intro op b1 b2 tail rest i h
  have hoperand := decode_operand h
  have hbyte {m : Mode} (hm : i.mode = m) : i.operand = m.operandOf b1 b2 := hm ▸ hoperand
  have hword : (wordOf b2 b1).toNat = 256 * b2.toNat + b1.toNat := by rw [Machine.wordOf_toNat, Nat.mul_comm]
  refine ⟨hbyte, hbyte, hbyte, hbyte, hbyte, hbyte, fun hm => ⟨_, hbyte hm, hword⟩, fun hm => ⟨_, hbyte hm, hword⟩,
    fun hm => ⟨_, hbyte hm, hword⟩, fun hm => ⟨_, hbyte hm, hword⟩, fun hm => ?_, Machine.zeroPage_toNat b1⟩
  rw [← sext8_eq_ite]
  exact hbyte hm

end Sys2Proof
end

section
/-! PROOFS. The resolver as integers (40 R125 to R133): the bytes and words it reads from memory, the address and the crossing report of
an indexed mode, and the four modes that only some mnemonics have. -/

namespace Sys2Proof

/-- The mnemonics that an instruction of a mode can have: the shifts for Accumulator (40 R122), LDX and STX for Zeropage,Y (R127), JMP
for Indirect (R131), the branches for Relative (R134), and no restriction for the other modes. -/
def Mode.admits (m : Mode) (n : Mnemonic) : Bool :=
  match m with
  | .acc => n ∈ [Mnemonic.ASL, .LSR, .ROL, .ROR]
  | .zpY => n ∈ [Mnemonic.LDX, .STX]
  | .rel => n ∈ [Mnemonic.BCC, .BCS, .BEQ, .BMI, .BNE, .BPL, .BVC, .BVS]
  | .ind => n = .JMP
  | _ => true

/-- Every row of the instruction set keeps to the mnemonics of its mode. -/
theorem Instr.mode_admits_mnemonic (i : Instr) : i.mode.admits i.mnemonic = true := by
  cases i <;> rfl

/-- The restriction of a known mode, for reading a membership off `Mode.admits`. -/
theorem Instr.admits_of_mode {i : Instr} {m : Mode} (h : i.mode = m) : m.admits i.mnemonic = true :=
  h ▸ i.mode_admits_mnemonic

namespace Machine

/-- The byte at the address `n` modulo 65536, as an integer. -/
def State.byteAt (s : State) (n : Nat) : Nat := (s.read (BitVec.ofNat 16 n)).toNat

/-- At an address, `State.byteAt` is the model's read. -/
theorem State.byteAt_toNat (s : State) (a : Address) : s.byteAt a.toNat = (s.read a).toNat := by
  rw [State.byteAt, BitVec.ofNat_toNat, BitVec.setWidth_eq]

/-- A zero-page address is a word of page 0 (20 R67). -/
theorem zeroPage_eq_wordOf (b : Byte) : zeroPage b = wordOf 0 b := by
  apply BitVec.eq_of_toNat_eq
  rw [zeroPage_toNat, wordOf_toNat]
  simp

/-- A word with its page first: the spelling of an address in terms of its operand bytes (40 R128). -/
theorem wordOf_toNat_page_add (hi lo : Byte) : (wordOf hi lo).toNat = 256 * hi.toNat + lo.toNat := by
  rw [wordOf_toNat, Nat.mul_comm]

/-- The sum of a zero-page operand and an index wraps within the page (40 R126, R127). -/
theorem zeroPage_add_toNat (b reg : Byte) : (zeroPage (b + reg)).toNat = (b.toNat + reg.toNat) % 256 := by
  rw [zeroPage_toNat, BitVec.toNat_add]

/-- The low byte of a pointer is the byte at the address itself (40 R131). -/
theorem lowByte_readWordInPage (s : State) (a : Address) : lowByte (readWordInPage s a) = s.read a :=
  lowByte_wordOf _ _

/-- A pointer's high byte is read from the same page: the low byte of its address wraps (40 R131). -/
theorem readWordInPage_wordOf_toNat (s : State) (hi lo : Byte) :
    (readWordInPage s (wordOf hi lo)).toNat =
      s.byteAt (256 * hi.toNat + lo.toNat) + 256 * s.byteAt (256 * hi.toNat + (lo.toNat + 1) % 256) := by
  have hnext : (wordOf hi (lo + 1)).toNat = 256 * hi.toNat + (lo.toNat + 1) % 256 := by
    rw [wordOf_toNat_page_add, BitVec.toNat_add]
    rfl
  rw [← wordOf_toNat_page_add, ← hnext, State.byteAt_toNat, State.byteAt_toNat, readWordInPage, wordOf_toNat, highByte_wordOf, lowByte_wordOf]
  omega

/-- In the zero page both bytes of a pointer are read modulo 256 (40 R132, R133). -/
theorem readWordInPage_zeroPage_toNat (s : State) (b : Byte) :
    (readWordInPage s (zeroPage b)).toNat = s.byteAt b.toNat + 256 * s.byteAt ((b.toNat + 1) % 256) := by
  simpa [zeroPage_eq_wordOf] using readWordInPage_wordOf_toNat s 0 b

/-- The base of Indirect,Y has as its low byte the byte at the zero-page operand (40 R133). -/
theorem lowByte_readWordInPage_zeroPage_toNat (s : State) (b : Byte) :
    (lowByte (readWordInPage s (zeroPage b))).toNat = s.byteAt b.toNat := by
  rw [lowByte_readWordInPage, ← State.byteAt_toNat, zeroPage_toNat]

/-- An indexed mode over a base with low byte `low` and value `base` (40 R129, R130, R133). -/
theorem resolveAbsIndexed_eq_addrPC {w : Address} {low base : Nat} (reg : Byte) (hlow : (lowByte w).toNat = low)
    (hbase : w.toNat = base) :
    ∃ a, Resolved.mem (resolveAbsIndexed w reg) = .mem (.addrPC a (decide (low + reg.toNat > 0xFF))) ∧
      a.toNat = (base + reg.toNat) % 65536 :=
  ⟨_, by rw [resolveAbsIndexed, hlow], by rw [indexed_toNat, hbase]⟩

/-- Settles O24, from the word a pointer names and the two answers of an indexed mode. -/
theorem indexedAndIndirectModesResolve : Obligations.IndexedAndIndirectModesResolve := by
  intro s b lo hi byteAt ptr low base z
  have hlow : (lowByte (wordOf hi lo)).toNat = lo.toNat := by rw [lowByte_wordOf]
  have hptr : (wordOf hi lo).toNat = ptr := wordOf_toNat_page_add hi lo
  have hz : (b + s.X).toNat = z := BitVec.toNat_add b s.X
  have hxInd := readWordInPage_zeroPage_toNat s (b + s.X)
  rw [hz] at hxInd
  exact ⟨resolveAbsIndexed_eq_addrPC s.X hlow hptr, resolveAbsIndexed_eq_addrPC s.Y hlow hptr,
    ⟨_, rfl, readWordInPage_wordOf_toNat s hi lo⟩, ⟨_, rfl, hxInd⟩,
    resolveAbsIndexed_eq_addrPC s.Y (lowByte_readWordInPage_zeroPage_toNat s b) (readWordInPage_zeroPage_toNat s b),
    fun _ hmode => of_decide_eq_true (Instr.admits_of_mode hmode)⟩

/-- Settles O23: each direct mode names its address by one rule of the resolver, and `Mode.admits` holds the restricted modes. -/
theorem directModesResolve : Obligations.DirectModesResolve := by
  intro s b lo hi d
  exact ⟨rfl, rfl, rfl, rfl, ⟨_, rfl, zeroPage_toNat b⟩, ⟨_, rfl, zeroPage_add_toNat b s.X⟩, ⟨_, rfl, zeroPage_add_toNat b s.Y⟩,
    ⟨_, rfl, wordOf_toNat_page_add hi lo⟩, fun _ hmode => of_decide_eq_true (Instr.admits_of_mode hmode),
    fun _ hmode => of_decide_eq_true (Instr.admits_of_mode hmode),
    fun _ hmode => of_decide_eq_true (Instr.admits_of_mode hmode)⟩

end Machine
end Sys2Proof
end

section
/-! PROOFS. Loads and stores (41 R160 to R165): what loading any register and storing any register do to the whole state, then one
row of the opcode table after another. -/

namespace Sys2Proof.Machine

@[simp] theorem setZN_reg (s : State) (v : Byte) (r : Reg) : (s.setZN v).reg r = s.reg r := rfl
@[simp] theorem setRemaining_reg (s : State) (n : Nat) (r : Reg) : (s.setRemaining n).reg r = s.reg r := rfl
@[simp] theorem advance_reg (s : State) (n : Nat) (r : Reg) : (s.advance n).reg r = s.reg r := rfl

/-- `r <- v` for a register given by name. -/
def State.setReg (s : State) (r : Reg) (v : Byte) : State :=
  match r with
  | .A => s.setA v
  | .X => s.setX v
  | .Y => s.setY v
  | .SP => s.setSP v

@[simp] theorem setReg_reg (s : State) (r q : Reg) (v : Byte) :
    (s.setReg r v).reg q = if q = r then v else s.reg q := by
  cases r <;> cases q <;> rfl

@[simp] theorem setReg_flag (s : State) (r : Reg) (v : Byte) (f : Flag) : (s.setReg r v).flag f = s.flag f := by
  cases r <;> rfl

@[simp] theorem setReg_read (s : State) (r : Reg) (v : Byte) (a : Address) : (s.setReg r v).read a = s.read a := by
  cases r <;> rfl

@[simp] theorem setReg_PC (s : State) (r : Reg) (v : Byte) : (s.setReg r v).PC = s.PC := by
  cases r <;> rfl

@[simp] theorem setReg_total (s : State) (r : Reg) (v : Byte) : (s.setReg r v).total = s.total := by
  cases r <;> rfl

@[simp] theorem setReg_halted (s : State) (r : Reg) (v : Byte) : (s.setReg r v).halted = s.halted := by
  cases r <;> rfl

/-! The model's three loads as one (10 R21 to R23), so that one lemma serves every row that loads a register. -/

theorem loadA_eq_setReg (s : State) (v : Byte) : s.loadA v = (s.setReg .A v).setZN v := rfl
theorem loadX_eq_setReg (s : State) (v : Byte) : s.loadX v = (s.setReg .X v).setZN v := rfl
theorem loadY_eq_setReg (s : State) (v : Byte) : s.loadY v = (s.setReg .Y v).setZN v := rfl

/-- `SetZN(v)` makes Z and N speak of `v` (10 R31). -/
theorem setZN_znOf (s : State) (v : Byte) : ZNOf v (s.setZN v) :=
  ⟨by simp, by simp⟩

/-- The flags that `SetZN(v)` leaves alone (10 R31). -/
theorem setZN_sameFlagsExcept (s : State) (v : Byte) : SameFlagsExcept [.Z, .N] s (s.setZN v) := by
  intro f hf
  obtain ⟨hZ, hN⟩ : f ≠ .Z ∧ f ≠ .N := by simpa using hf
  rw [setZN_flag, if_neg hN, if_neg hZ]

/-- An instruction that advances PC, loads `v` into `r` and costs its base and a penalty: the whole effect, with its frame. -/
theorem exists_next_load {i : Instr} {s : State} {r : Reg} {v : Byte} {base penalty : Nat}
    {load : State → Byte → State} (hload : ∀ u x, load u x = (u.setReg r x).setZN x) (hbase : i.tableBase = some base)
    (hexec : exec i s = .next ((load (s.advance i.size) v).setRemaining (base + penalty))) :
    ∃ t, exec i s = .next t ∧ t.reg r = v ∧ ZNOf v t ∧ SameRegsExcept [r] s t ∧ SameFlagsExcept [.Z, .N] s t ∧
      FallsThrough i s t ∧ SameMemory s t ∧ SameBookkeeping s t ∧ Costs i penalty t := by
  rw [hload] at hexec
  refine ⟨_, hexec, by simp, setZN_znOf _ v, ?_, ?_, setReg_PC _ r v, setReg_read _ r v,
    ⟨setReg_total _ r v, setReg_halted _ r v⟩, base, hbase, rfl⟩
  · intro q hq
    have hne : q ≠ r := by simpa using hq
    simp [hne]
  · intro f hf
    rw [setRemaining_flag, setZN_sameFlagsExcept _ v f hf, setReg_flag, advance_flag]

/-- An instruction that advances PC, writes `v` at `a` and costs its base alone: the whole effect, with its frame. -/
theorem exists_next_write {i : Instr} {s : State} {a : Address} {v : Byte} {base : Nat} (hbase : i.tableBase = some base)
    (hexec : exec i s = .next (((s.advance i.size).write a v).setRemaining base)) :
    ∃ t, exec i s = .next t ∧ t.read a = v ∧ SameMemoryExcept [a] s t ∧ SameRegsExcept [] s t ∧ SameFlagsExcept [] s t ∧
      FallsThrough i s t ∧ SameBookkeeping s t ∧ Costs i 0 t := by
  refine ⟨_, hexec, ?_, ?_, fun _ _ => rfl, fun _ _ => rfl, rfl, ⟨rfl, rfl⟩, base, hbase, rfl⟩
  · rw [setRemaining_read, write_read, if_pos rfl]
  · intro c hc
    have hne : a ≠ c := fun h => hc (List.mem_singleton.mpr h.symm)
    rw [setRemaining_read, write_read, if_neg hne, advance_read]

/-- Settles O27: every row of LDA, LDX and LDY loads one register. -/
theorem loadsReadMemoryIntoARegister : Obligations.LoadsReadMemoryIntoARegister := by
  intro s b w
  simp only [List.forall_mem_cons]
  exact ⟨exists_next_load loadA_eq_setReg (tableBase_ldaXInd b) (exec_ldaXInd b s),
    exists_next_load loadA_eq_setReg (tableBase_ldaZp b) (exec_ldaZp b s),
    exists_next_load loadA_eq_setReg (tableBase_ldaImm b) (exec_ldaImm b s),
    exists_next_load loadA_eq_setReg (tableBase_ldaAbs w) (exec_ldaAbs w s),
    exists_next_load loadA_eq_setReg (tableBase_ldaIndY b) (exec_ldaIndY b s),
    exists_next_load loadA_eq_setReg (tableBase_ldaZpX b) (exec_ldaZpX b s),
    exists_next_load loadA_eq_setReg (tableBase_ldaAbsY w) (exec_ldaAbsY w s),
    exists_next_load loadA_eq_setReg (tableBase_ldaAbsX w) (exec_ldaAbsX w s),
    exists_next_load loadX_eq_setReg (tableBase_ldxImm b) (exec_ldxImm b s),
    exists_next_load loadX_eq_setReg (tableBase_ldxZp b) (exec_ldxZp b s),
    exists_next_load loadX_eq_setReg (tableBase_ldxAbs w) (exec_ldxAbs w s),
    exists_next_load loadX_eq_setReg (tableBase_ldxZpY b) (exec_ldxZpY b s),
    exists_next_load loadX_eq_setReg (tableBase_ldxAbsY w) (exec_ldxAbsY w s),
    exists_next_load loadY_eq_setReg (tableBase_ldyImm b) (exec_ldyImm b s),
    exists_next_load loadY_eq_setReg (tableBase_ldyZp b) (exec_ldyZp b s),
    exists_next_load loadY_eq_setReg (tableBase_ldyAbs w) (exec_ldyAbs w s),
    exists_next_load loadY_eq_setReg (tableBase_ldyZpX b) (exec_ldyZpX b s),
    exists_next_load loadY_eq_setReg (tableBase_ldyAbsX w) (exec_ldyAbsX w s),
    List.forall_mem_nil _⟩

/-- Settles O28: every row of STA, STX and STY writes one byte, whatever crossing its mode reports. -/
theorem storesWriteARegisterToMemory : Obligations.StoresWriteARegisterToMemory := by
  intro s b w
  simp only [List.forall_mem_cons]
  exact ⟨exists_next_write (tableBase_staXInd b) (exec_staXInd b s),
    exists_next_write (tableBase_staZp b) (exec_staZp b s),
    exists_next_write (tableBase_staAbs w) (exec_staAbs w s),
    exists_next_write (tableBase_staIndY b) (exec_staIndY b s),
    exists_next_write (tableBase_staZpX b) (exec_staZpX b s),
    exists_next_write (tableBase_staAbsY w) (exec_staAbsY w s),
    exists_next_write (tableBase_staAbsX w) (exec_staAbsX w s),
    exists_next_write (tableBase_stxZp b) (exec_stxZp b s),
    exists_next_write (tableBase_stxAbs w) (exec_stxAbs w s),
    exists_next_write (tableBase_stxZpY b) (exec_stxZpY b s),
    exists_next_write (tableBase_styZp b) (exec_styZp b s),
    exists_next_write (tableBase_styAbs w) (exec_styAbs w s),
    exists_next_write (tableBase_styZpX b) (exec_styZpX b s),
    List.forall_mem_nil _⟩

end Sys2Proof.Machine
end

section
/-! PROOFS. Arithmetic, logic, compare, increment and decrement of memory (42 R201 to R204, R210 to R220). A row with a memory operand
runs the executor of its mnemonic; each of the five shapes of executor gets one lemma for its whole effect, and a statement reads the
shape off the mnemonic of its row. -/

namespace Sys2Proof.Machine

/-! The rows with a memory operand. -/

/-- The executor of a mnemonic on a memory operand, where it has such a form (46 R347). -/
def memExecutor : Mnemonic → Option (MemOperand → State → Effect)
  | .ADC => some adcOp
  | .AND => some andOp
  | .ASL => some aslOp
  | .BIT => some bitOp
  | .CMP => some cmpOp
  | .CPX => some cpxOp
  | .CPY => some cpyOp
  | .DEC => some decOp
  | .EOR => some eorOp
  | .INC => some incOp
  | .JMP => some jmpOp
  | .JSR => some jsrOp
  | .LDA => some ldaOp
  | .LDX => some ldxOp
  | .LDY => some ldyOp
  | .LSR => some lsrOp
  | .ORA => some oraOp
  | .ROL => some rolOp
  | .ROR => some rorOp
  | .SBC => some sbcOp
  | .STA => some staOp
  | .STX => some stxOp
  | .STY => some styOp
  | _ => none

/-- A row with a memory operand is its table base, its mnemonic's executor and its form: row by row, where a row with another operand
contradicts `hop`. -/
theorem exec_eq_execMem {i : Instr} {f : MemForm} {ex : MemOperand → State → Effect} (hop : i.operand = .mem f)
    (hex : memExecutor i.mnemonic = some ex) :
    ∃ base, i.tableBase = some base ∧ ∀ s, exec i s = execMem base ex f s := by
  cases i <;> cases hop <;> cases hex <;> exact ⟨_, by simp, fun _ => rfl⟩

/-- So on every state it leaves the executor's effect in the advanced state, with its cost (46 R347, R348). -/
theorem exec_next_of_mem {i : Instr} {f : MemForm} {n : Mnemonic} {ex : MemOperand → State → Effect} (hop : i.operand = .mem f)
    (hmn : i.mnemonic = n) (hex : memExecutor n = some ex) :
    ∃ base, i.tableBase = some base ∧ ∀ s, let e := ex (resolveMem f (s.advance i.size)) (s.advance i.size)
      exec i s = .next (e.post.setRemaining (base + e.penalty)) := by
  subst hmn
  obtain ⟨base, hbase, hexec⟩ := exec_eq_execMem hop hex
  have hsize : i.size = f.mode.size := by rw [Instr.size, Instr.mode, hop, Operand.mode]
  exact ⟨base, hbase, fun s => by rw [hexec, execMem_next, hsize]⟩

/-- A frame for some flags is a frame for more. -/
theorem SameFlagsExcept.mono {l k : List Flag} {s t : State} (h : SameFlagsExcept l s t) (hsub : l ⊆ k) : SameFlagsExcept k s t :=
  fun f hf => h f fun hmem => hf (hsub hmem)

/-! ADC and SBC: one executor over two cores (42 R210, R211). -/

@[simp] theorem writeSum_reg (s : State) (r : CoreResult) (q : Reg) : (s.writeSum r).reg q = if q = .A then r.result else s.reg q := by
  cases q <;> rfl

/-- `writeSum` ends with `SetZN` of the result (42 R210, R211). -/
theorem writeSum_znOf (s : State) (r : CoreResult) : ZNOf r.result (s.writeSum r) := setZN_znOf _ _

/-- The executor that ADC and SBC share: a core on A, the byte and the carry. -/
def sumOp (core : Byte → Byte → Bool → CoreResult) (op : MemOperand) (s : State) : Effect :=
  ⟨s.writeSum (core s.A (s.read op.address) (s.flag .C)), op.penalty⟩

theorem memExecutor_ADC : memExecutor .ADC = some (sumOp addCore) := rfl
theorem memExecutor_SBC : memExecutor .SBC = some (sumOp subCore) := rfl

/-- The subtract core with the carry written out as an integer (42 R203). -/
theorem subCore_eq_ite (a m : Byte) (c : Bool) :
    let diff : Int := (a.toNat : Int) - m.toNat - (1 - (if c then 1 else 0))
    ((subCore a m c).result.toNat : Int) = diff % 256 ∧ (subCore a m c).carry = decide (diff ≥ 0) := by
  cases c <;> exact ⟨subCore_toNat a m _, rfl⟩

/-- The whole effect of an add or a subtract, with its frame. -/
theorem exists_next_sum {i : Instr} {f : MemForm} {n : Mnemonic} {core : Byte → Byte → Bool → CoreResult} (hop : i.operand = .mem f)
    (hmn : i.mnemonic = n) (hex : memExecutor n = some (sumOp core)) (s : State) :
    let op := resolveMem f (s.advance i.size)
    let r := core s.A (s.read op.address) (s.flag .C)
    ∃ t, exec i s = .next t ∧ t.A = r.result ∧ t.flag .C = r.carry ∧ t.flag .V = r.overflow ∧ ZNOf t.A t ∧
      SameRegsExcept [.A] s t ∧ SameFlagsExcept [.N, .Z, .C, .V] s t ∧ FallsThrough i s t ∧ SameMemory s t ∧
      SameBookkeeping s t ∧ Costs i op.penalty t := by
  obtain ⟨base, hbase, hexec⟩ := exec_next_of_mem hop hmn hex
  refine ⟨_, hexec s, rfl, by simp [sumOp], by simp [sumOp], writeSum_znOf _ _, ?_, ?_, rfl, fun _ => rfl,
    ⟨rfl, rfl⟩, base, hbase, rfl⟩
  · intro q hq
    have hne : q ≠ .A := by simpa using hq
    simp [sumOp, hne]
  · intro g hg
    obtain ⟨hN, hZ, hC, hV⟩ : g ≠ .N ∧ g ≠ .Z ∧ g ≠ .C ∧ g ≠ .V := by simpa using hg
    simp [sumOp, hN, hZ, hC, hV]

/-- Settles O30, from the add core as integers. -/
theorem addWithCarryResult : Obligations.AddWithCarryResult := by
  intro s b w r hr
  obtain ⟨hop, hmn⟩ : r.1.operand = .mem r.2 ∧ r.1.mnemonic = .ADC := by
    fin_cases hr <;> exact ⟨rfl, rfl⟩
  obtain ⟨t, hexec, hA, hC, hV, hframe⟩ := exists_next_sum hop hmn memExecutor_ADC s
  exact ⟨t, hexec, hA ▸ addCore_toNat _ _ _, hC, hA ▸ hV, hframe⟩

/-- Settles O31, from the subtract core as integers. -/
theorem subtractWithCarryResult : Obligations.SubtractWithCarryResult := by
  intro s b w r hr
  obtain ⟨hop, hmn⟩ : r.1.operand = .mem r.2 ∧ r.1.mnemonic = .SBC := by
    fin_cases hr <;> exact ⟨rfl, rfl⟩
  obtain ⟨t, hexec, hA, hC, hV, hframe⟩ := exists_next_sum hop hmn memExecutor_SBC s
  obtain ⟨hdiff, hcarry⟩ := subCore_eq_ite s.A (s.read (resolveMem r.2 (s.advance r.1.size)).address) (s.flag .C)
  exact ⟨t, hexec, hA ▸ hdiff, hC.trans hcarry, hA ▸ hV, hframe⟩

/-! The decimal flag (42 R201): a write of P.D before an add or subtract can as well come after it. -/

/-- The resolver reads no flag (40 R121). -/
theorem resolveMem_setFlag (form : MemForm) (s : State) (f : Flag) (v : Bool) : resolveMem form (s.setFlag f v) = resolveMem form s := by
  cases form <;> rfl

/-- Writes of two flags commute. -/
theorem setFlag_comm {f g : Flag} (hne : f ≠ g) (s : State) (v w : Bool) :
    (s.setFlag f v).setFlag g w = (s.setFlag g w).setFlag f v := by
  have hP : putFlag g w (putFlag f v s.P) = putFlag f v (putFlag g w s.P) := by
    apply status_ext
    intro k
    by_cases hk : k = f
    · simp [hk, hne]
    · simp [hk]
  simp [State.setFlag, hP]

/-- ADC and SBC leave P.D as it is written before. -/
theorem writeSum_setFlag_D (s : State) (d : Bool) (r : CoreResult) : (s.setFlag .D d).writeSum r = (s.writeSum r).setFlag .D d := by
  have hset : ∀ u : State, (u.setFlag .D d).setA r.result = (u.setA r.result).setFlag .D d := fun _ => rfl
  have hZN : ∀ u : State, (u.setFlag .D d).setZN r.result = (u.setZN r.result).setFlag .D d := by
    intro u
    rw [State.setZN, setFlag_comm (f := .D) (by decide), setFlag_comm (f := .D) (by decide)]
    rfl
  rw [State.writeSum, hset, setFlag_comm (f := .D) (by decide), setFlag_comm (f := .D) (by decide), hZN]
  rfl

/-- The executor of ADC and SBC does not look at P.D. -/
theorem sumOp_setFlag_D (core : Byte → Byte → Bool → CoreResult) (op : MemOperand) (s : State) (d : Bool) :
    sumOp core op (s.setFlag .D d) = ⟨(sumOp core op s).post.setFlag .D d, op.penalty⟩ := by
  simp [sumOp, writeSum_setFlag_D]

/-- So with P.D set beforehand an add or subtract gives the same state with P.D set. -/
theorem exec_sum_setFlag_D {i : Instr} {f : MemForm} {n : Mnemonic} {core : Byte → Byte → Bool → CoreResult}
    (hop : i.operand = .mem f) (hmn : i.mnemonic = n) (hex : memExecutor n = some (sumOp core)) {s t : State}
    (h : exec i s = .next t) (d : Bool) : exec i (s.setFlag .D d) = .next (t.setFlag .D d) := by
  obtain ⟨base, -, hexec⟩ := exec_next_of_mem hop hmn hex
  have hadv : (s.setFlag .D d).advance i.size = (s.advance i.size).setFlag .D d := rfl
  rw [hexec] at h
  obtain ⟨⟩ := h
  rw [hexec, hadv, resolveMem_setFlag, sumOp_setFlag_D]
  rfl

/-- Every form of ADC and SBC has a memory operand (30 R94). -/
theorem operand_eq_mem_of_sum {i : Instr} (h : i.mnemonic = .ADC ∨ i.mnemonic = .SBC) : ∃ f, i.operand = .mem f := by
  cases i <;> simp [Instr.mnemonic, Instr.operand] at h ⊢

/-- Settles O21: the result from the cores as integers, and the independence of P.D by moving its write past the executor. -/
theorem decimalFlagDoesNotChangeArithmetic : Obligations.DecimalFlagDoesNotChangeArithmetic := by
  intro i s d h
  obtain ⟨f, hop⟩ := operand_eq_mem_of_sum h
  rcases h with hmn | hmn
  · obtain ⟨t, hexec, hA, hC, -⟩ := exists_next_sum hop hmn memExecutor_ADC s
    exact ⟨f, t, hop, hexec, exec_sum_setFlag_D hop hmn memExecutor_ADC hexec d,
      fun _ => ⟨hA ▸ addCore_toNat _ _ _, hC⟩, fun hSBC => absurd (hmn.symm.trans hSBC) (by decide)⟩
  · obtain ⟨t, hexec, hA, hC, -⟩ := exists_next_sum hop hmn memExecutor_SBC s
    obtain ⟨hdiff, hcarry⟩ := subCore_eq_ite s.A (s.read (resolveMem f (s.advance i.size)).address) (s.flag .C)
    exact ⟨f, t, hop, hexec, exec_sum_setFlag_D hop hmn memExecutor_SBC hexec d,
      fun hADC => absurd (hmn.symm.trans hADC) (by decide), fun _ => ⟨hA ▸ hdiff, hC.trans hcarry⟩⟩

/-! AND, ORA and EOR: one executor over three operations on bytes (42 R212 to R214). -/

/-- The operation on bits that a logical mnemonic stands for. -/
def bitwiseOf : Mnemonic → Option (Bool → Bool → Bool)
  | .AND => some Bool.and
  | .ORA => some Bool.or
  | .EOR => some Bool.xor
  | _ => none

/-- The executor that AND, ORA and EOR share: load A with a combination of A and the byte. -/
def logicOp (combine : Byte → Byte → Byte) (op : MemOperand) (s : State) : Effect :=
  ⟨s.loadA (combine s.A (s.read op.address)), op.penalty⟩

/-- A logical mnemonic combines A with the byte bit by bit. -/
theorem memExecutor_of_bitwiseOf {n : Mnemonic} {onBits : Bool → Bool → Bool} (h : bitwiseOf n = some onBits) :
    ∃ combine : Byte → Byte → Byte, memExecutor n = some (logicOp combine) ∧
      ∀ x y k, (combine x y).getLsbD k = onBits (x.getLsbD k) (y.getLsbD k) :=
  match n, h with
  | .AND, rfl => ⟨_, rfl, fun _ _ _ => BitVec.getLsbD_and⟩
  | .ORA, rfl => ⟨_, rfl, fun _ _ _ => BitVec.getLsbD_or⟩
  | .EOR, rfl => ⟨_, rfl, fun _ _ _ => BitVec.getLsbD_xor⟩

/-- Settles O34: the effect of a load of A, with the loaded byte read bit by bit. -/
theorem logicalOperationsOnA : Obligations.LogicalOperationsOnA := by
  intro s b w r hr
  obtain ⟨hop, hbitwise⟩ : r.1.operand = .mem r.2.1 ∧ bitwiseOf r.1.mnemonic = some r.2.2 := by
    fin_cases hr <;> exact ⟨rfl, rfl⟩
  obtain ⟨combine, hex, hbits⟩ := memExecutor_of_bitwiseOf hbitwise
  obtain ⟨base, hbase, hexec⟩ := exec_next_of_mem hop rfl hex
  obtain ⟨t, hnext, hA, hZN, hregs, hflags, hframe⟩ := exists_next_load loadA_eq_setReg hbase (hexec s)
  change t.A = _ at hA
  exact ⟨t, hnext, fun k _ => hA ▸ hbits _ _ k, hA ▸ hZN, hregs, SameFlagsExcept.mono hflags (by decide), hframe⟩

/-! CMP, CPX and CPY: one compare of a register (42 R204, R216 to R218). -/

/-- The register that a compare mnemonic reads. -/
def comparedReg : Mnemonic → Option Reg
  | .CMP => some .A
  | .CPX => some .X
  | .CPY => some .Y
  | _ => none

@[simp] theorem compare_reg (s : State) (r m : Byte) (q : Reg) : (s.compare r m).reg q = s.reg q := by
  cases q <;> rfl

/-- The difference byte is zero exactly for equal bytes. -/
theorem sub_eq_zero_iff_toNat_eq (r m : Byte) : r - m = 0#8 ↔ r.toNat = m.toNat := by
  bv_omega

/-- Bit 7 of the difference byte, as integers. -/
theorem sub_getLsbD_seven (r m : Byte) : (r - m).getLsbD 7 = decide ((r.toNat + 256 - m.toNat) % 256 ≥ 128) := by
  have hm := m.isLt
  have hsub : (r - m).toNat = (r.toNat + 256 - m.toNat) % 256 := by
    rw [BitVec.toNat_sub]
    omega
  rw [← hsub]
  exact BitVec.msb_eq_decide (r - m)

/-- An instruction that compares `x` with `m` and costs its base and a penalty: the whole effect, with its frame. -/
theorem exists_next_compare {i : Instr} {s : State} {x m : Byte} {base penalty : Nat} (hbase : i.tableBase = some base)
    (hexec : exec i s = .next (((s.advance i.size).compare x m).setRemaining (base + penalty))) :
    ∃ t, exec i s = .next t ∧ t.flag .C = decide (x.toNat ≥ m.toNat) ∧ t.flag .Z = decide (x.toNat = m.toNat) ∧
      t.flag .N = decide ((x.toNat + 256 - m.toNat) % 256 ≥ 128) ∧ SameRegsExcept [] s t ∧ SameFlagsExcept [.N, .Z, .C] s t ∧
      FallsThrough i s t ∧ SameMemory s t ∧ SameBookkeeping s t ∧ Costs i penalty t := by
  refine ⟨_, hexec, by simp, by simp [sub_eq_zero_iff_toNat_eq], ?_, fun q _ => compare_reg _ x m q, ?_, compare_PC _ x m,
    compare_read _ x m, ⟨compare_total _ x m, compare_halted _ x m⟩, base, hbase, rfl⟩
  · rw [setRemaining_flag, compare_flag, if_pos rfl, sub_getLsbD_seven]
  · intro g hg
    obtain ⟨hN, hZ, hC⟩ : g ≠ .N ∧ g ≠ .Z ∧ g ≠ .C := by simpa using hg
    simp [hN, hZ, hC]

/-- No form of CPX or CPY has a mode that can report a page crossing (42 R217, R218). -/
theorem penalty_eq_zero_of_index_compare {i : Instr} {f : MemForm} (hop : i.operand = .mem f)
    (hmn : i.mnemonic = .CPX ∨ i.mnemonic = .CPY) (s : State) : (resolveMem f s).penalty = 0 := by
  cases i <;> simp [Instr.mnemonic] at hmn <;> cases hop <;> rfl

/-- A compare runs the compare core on its register, with the penalty of its operand: CPX and CPY, which add none, have no form
with a penalty. -/
theorem exec_next_of_compare {i : Instr} {f : MemForm} {q : Reg} {n : Mnemonic} (hop : i.operand = .mem f) (hmn : i.mnemonic = n)
    (hreg : comparedReg n = some q) (s : State) :
    let op := resolveMem f (s.advance i.size)
    ∃ base, i.tableBase = some base ∧
      exec i s = .next (((s.advance i.size).compare (s.reg q) (s.read op.address)).setRemaining (base + op.penalty)) := by
  match n, hmn, hreg with
  | .CMP, hmn, rfl =>
    obtain ⟨base, hbase, hexec⟩ := exec_next_of_mem hop hmn rfl
    exact ⟨base, hbase, hexec s⟩
  | .CPX, hmn, rfl =>
    obtain ⟨base, hbase, hexec⟩ := exec_next_of_mem hop hmn rfl
    refine ⟨base, hbase, ?_⟩
    rw [penalty_eq_zero_of_index_compare hop (.inl hmn)]
    exact hexec s
  | .CPY, hmn, rfl =>
    obtain ⟨base, hbase, hexec⟩ := exec_next_of_mem hop hmn rfl
    refine ⟨base, hbase, ?_⟩
    rw [penalty_eq_zero_of_index_compare hop (.inr hmn)]
    exact hexec s

/-- Settles O36, from the effect of a compare of any register. -/
theorem comparesWriteOnlyFlags : Obligations.ComparesWriteOnlyFlags := by
  intro s b w r hr
  obtain ⟨hop, hreg⟩ : r.1.operand = .mem r.2.1 ∧ comparedReg r.1.mnemonic = some r.2.2 := by
    fin_cases hr <;> exact ⟨rfl, rfl⟩
  obtain ⟨base, hbase, hexec⟩ := exec_next_of_compare hop rfl hreg s
  exact exists_next_compare hbase hexec

/-! INC and DEC: one read-modify-write over two changes of a byte (42 R219, R220). -/

/-- What INC and DEC add to the byte, modulo 256. -/
def addendOf : Mnemonic → Option Nat
  | .INC => some 1
  | .DEC => some 255
  | _ => none

/-- The executor that INC and DEC share: write back the byte changed. -/
def adjustOp (change : Byte → Byte) (op : MemOperand) (s : State) : Effect :=
  (s.writeBack op.address (change (s.read op.address))).noPenalty

/-- Subtracting 1 is adding 255 modulo 256. -/
theorem sub_one_toNat (x : Byte) : (x - 1).toNat = (x.toNat + 255) % 256 := by
  rw [BitVec.toNat_sub, Nat.add_comm]
  rfl

/-- INC and DEC change the byte by their addend. -/
theorem memExecutor_of_addendOf {n : Mnemonic} {k : Nat} (h : addendOf n = some k) :
    ∃ change : Byte → Byte, memExecutor n = some (adjustOp change) ∧ ∀ x, (change x).toNat = (x.toNat + k) % 256 :=
  match n, h with
  | .INC, rfl => ⟨(· + 1), rfl, fun x => BitVec.toNat_add x 1⟩
  | .DEC, rfl => ⟨(· - 1), rfl, sub_one_toNat⟩

@[simp] theorem writeBack_reg (s : State) (a : Address) (v : Byte) (q : Reg) : (s.writeBack a v).reg q = s.reg q := by
  cases q <;> rfl

/-- An instruction that advances PC, writes `v` back at `a` and costs its base alone: the whole effect, with its frame. -/
theorem exists_next_writeBack {i : Instr} {s : State} {a : Address} {v : Byte} {base : Nat} (hbase : i.tableBase = some base)
    (hexec : exec i s = .next (((s.advance i.size).writeBack a v).setRemaining base)) :
    ∃ t, exec i s = .next t ∧ t.read a = v ∧ ZNOf v t ∧ SameMemoryExcept [a] s t ∧ SameRegsExcept [] s t ∧
      SameFlagsExcept [.N, .Z] s t ∧ FallsThrough i s t ∧ SameBookkeeping s t ∧ Costs i 0 t := by
  refine ⟨_, hexec, by simp, setZN_znOf _ v, ?_, fun q _ => writeBack_reg _ a v q, ?_, writeBack_PC _ a v,
    ⟨writeBack_total _ a v, writeBack_halted _ a v⟩, base, hbase, rfl⟩
  · intro c hc
    have hne : a ≠ c := fun h => hc (List.mem_singleton.mpr h.symm)
    simp [hne]
  · intro g hg
    obtain ⟨hN, hZ⟩ : g ≠ .N ∧ g ≠ .Z := by simpa using hg
    simp [hN, hZ]

/-- Settles O37, from the effect of a write back of any byte. -/
theorem incrementAndDecrementMemory : Obligations.IncrementAndDecrementMemory := by
  intro s b w r hr
  obtain ⟨hop, haddend⟩ : r.1.operand = .mem r.2.1 ∧ addendOf r.1.mnemonic = some r.2.2 := by
    fin_cases hr <;> exact ⟨rfl, rfl⟩
  obtain ⟨change, hex, hadd⟩ := memExecutor_of_addendOf haddend
  obtain ⟨base, hbase, hexec⟩ := exec_next_of_mem hop rfl hex
  obtain ⟨t, hnext, hread, hZN, hframe⟩ := exists_next_writeBack hbase (hexec s)
  exact ⟨t, hnext, hread ▸ hadd _, hread ▸ hZN, hframe⟩

end Sys2Proof.Machine
end

section
/-! PROOFS. Shifts and rotates (43 R250 to R254). One operation at a place, the accumulator or a byte of memory, gets one lemma for its
whole effect; a core enters a statement as a function on integers and the number of the bit it shifts out, both read off the mnemonic. -/

namespace Sys2Proof.Machine

/-! What the shared operation writes, at either kind of place. -/

/-- The registers that a write to a place can change. -/
def ShiftPlace.regs : ShiftPlace → List Reg
  | .acc => [.A]
  | .mem _ => []

/-- The addresses that a write to a place can change. -/
def ShiftPlace.addresses : ShiftPlace → List Address
  | .acc => []
  | .mem a => [a]

@[simp] theorem placeRead_advance (s : State) (n : Nat) (p : ShiftPlace) : (s.advance n).placeRead p = s.placeRead p := by
  cases p <;> rfl

@[simp] theorem placeRead_setRemaining (s : State) (n : Nat) (p : ShiftPlace) : (s.setRemaining n).placeRead p = s.placeRead p := by
  cases p <;> rfl

/-- A shift leaves its core's result at its place. -/
theorem shiftAt_placeRead (core : ShiftCore) (p : ShiftPlace) (s : State) :
    (shiftAt core p s).placeRead p = (core (s.placeRead p) (s.flag .C)).result := by
  cases p <;> simp [State.placeRead]

/-- What a shift writes of P: N, Z and C. -/
theorem shiftAt_flag (core : ShiftCore) (p : ShiftPlace) (s : State) (g : Flag) :
    (shiftAt core p s).flag g =
      if g = .N then (core (s.placeRead p) (s.flag .C)).result.getLsbD 7
      else if g = .Z then decide ((core (s.placeRead p) (s.flag .C)).result = 0#8)
      else if g = .C then (core (s.placeRead p) (s.flag .C)).out else s.flag g := by
  have hwrite : ∀ r, (s.placeWrite r p).flag g = s.flag g := by
    intro r
    cases p <;> rfl
  simp only [shiftAt, setZN_flag, setFlag_flag, hwrite]

theorem shiftAt_sameRegsExcept (core : ShiftCore) (p : ShiftPlace) (s : State) : SameRegsExcept p.regs s (shiftAt core p s) := by
  intro q hq
  cases p with
  | acc =>
    cases q with
    | A => exact absurd (List.mem_singleton.mpr rfl) hq
    | X | Y | SP => rfl
  | mem a => cases q <;> rfl

theorem shiftAt_sameMemoryExcept (core : ShiftCore) (p : ShiftPlace) (s : State) :
    SameMemoryExcept p.addresses s (shiftAt core p s) := by
  intro c hc
  cases p with
  | acc => rfl
  | mem a =>
    have hne : a ≠ c := fun h => hc (List.mem_singleton.mpr h.symm)
    simp [hne]

theorem shiftAt_PC (core : ShiftCore) (p : ShiftPlace) (s : State) : (shiftAt core p s).PC = s.PC := by
  cases p <;> rfl

theorem shiftAt_sameBookkeeping (core : ShiftCore) (p : ShiftPlace) (s : State) : SameBookkeeping s (shiftAt core p s) := by
  cases p <;> exact ⟨rfl, rfl⟩

/-- An instruction that advances PC, shifts at a place and costs its base alone: the whole effect, with its frame. -/
theorem exists_next_shift {i : Instr} {s : State} {core : ShiftCore} {p : ShiftPlace} {base : Nat} (hbase : i.tableBase = some base)
    (hexec : exec i s = .next ((shiftAt core p (s.advance i.size)).setRemaining base)) :
    let r := core (s.placeRead p) (s.flag .C)
    ∃ t, exec i s = .next t ∧ t.placeRead p = r.result ∧ t.flag .C = r.out ∧ ZNOf r.result t ∧
      SameMemoryExcept p.addresses s t ∧ SameRegsExcept p.regs s t ∧ SameFlagsExcept [.N, .Z, .C] s t ∧
      FallsThrough i s t ∧ SameBookkeeping s t ∧ Costs i 0 t := by
  refine ⟨_, hexec, ?_, by simp [shiftAt_flag], ⟨by simp [shiftAt_flag], by simp [shiftAt_flag]⟩,
    shiftAt_sameMemoryExcept core p _, shiftAt_sameRegsExcept core p _, ?_, shiftAt_PC core p _,
    shiftAt_sameBookkeeping core p _, base, hbase, rfl⟩
  · rw [placeRead_setRemaining, shiftAt_placeRead, placeRead_advance, advance_flag]
  · intro g hg
    obtain ⟨hN, hZ, hC⟩ : g ≠ .N ∧ g ≠ .Z ∧ g ≠ .C := by simpa using hg
    simp [shiftAt_flag, hN, hZ, hC]

/-! The rows run the shared operation with the core of their mnemonic. -/

/-- The core of a shift mnemonic. -/
def shiftCoreOf : Mnemonic → Option ShiftCore
  | .ASL => some aslCore
  | .LSR => some lsrCore
  | .ROL => some rolCore
  | .ROR => some rorCore
  | _ => none

/-- The executor that the four mnemonics share on a memory operand. -/
def shiftOp (core : ShiftCore) (op : MemOperand) (s : State) : Effect := (shiftAt core (.mem op.address) s).noPenalty

theorem memExecutor_of_shiftCoreOf {n : Mnemonic} {core : ShiftCore} (h : shiftCoreOf n = some core) :
    memExecutor n = some (shiftOp core) :=
  match n, h with
  | .ASL, rfl | .LSR, rfl | .ROL, rfl | .ROR, rfl => rfl

/-- The accumulator row of a mnemonic: row by row, where a row with another operand contradicts `hop`. -/
theorem exec_next_of_shift_acc {i : Instr} {core : ShiftCore} (hop : i.operand = .acc) (hcore : shiftCoreOf i.mnemonic = some core) :
    ∃ base, i.tableBase = some base ∧ ∀ s, exec i s = .next ((shiftAt core .acc (s.advance i.size)).setRemaining base) := by
  cases i <;> cases hop <;> cases hcore <;> exact ⟨_, by simp, fun _ => rfl⟩

/-- What a shift mnemonic makes of the old value and the previous carry, as integers, and the number of the bit it shifts out. -/
def shiftOf : Mnemonic → Option ((Nat → Nat → Nat) × Nat)
  | .ASL => some (fun v _ => 2 * v % 256, 7)
  | .LSR => some (fun v _ => v / 2, 0)
  | .ROL => some (fun v c => 2 * v % 256 + c, 7)
  | .ROR => some (fun v c => v / 2 + 128 * c, 0)
  | _ => none

/-- The core of a shift mnemonic computes its function on integers and its bit. -/
theorem exists_shiftCoreOf_of_shiftOf {n : Mnemonic} {f : Nat → Nat → Nat} {k : Nat} (h : shiftOf n = some (f, k)) :
    ∃ core, shiftCoreOf n = some core ∧
      ∀ v c, (core v c).result.toNat = f v.toNat (if c then 1 else 0) ∧ (core v c).out = v.getLsbD k :=
  match n, h with
  | .ASL, rfl => ⟨aslCore, rfl, fun v c => ⟨aslCore_toNat v c, rfl⟩⟩
  | .LSR, rfl => ⟨lsrCore, rfl, fun v c => ⟨lsrCore_toNat v c, rfl⟩⟩
  | .ROL, rfl => ⟨rolCore, rfl, fun v c => ⟨rolCore_toNat v c, rfl⟩⟩
  | .ROR, rfl => ⟨rorCore, rfl, fun v c => ⟨rorCore_toNat v c, rfl⟩⟩

/-- The whole effect of a shift of the accumulator, on integers. -/
theorem exists_next_shift_acc {i : Instr} {f : Nat → Nat → Nat} {k : Nat} (hop : i.operand = .acc)
    (hshift : shiftOf i.mnemonic = some (f, k)) (s : State) :
    ∃ t, exec i s = .next t ∧ t.A.toNat = f s.A.toNat (if s.flag .C then 1 else 0) ∧ t.flag .C = s.A.getLsbD k ∧ ZNOf t.A t ∧
      SameRegsExcept [.A] s t ∧ SameFlagsExcept [.N, .Z, .C] s t ∧ FallsThrough i s t ∧ SameMemory s t ∧
      SameBookkeeping s t ∧ Costs i 0 t := by
  obtain ⟨core, hcore, hint⟩ := exists_shiftCoreOf_of_shiftOf hshift
  obtain ⟨base, hbase, hexec⟩ := exec_next_of_shift_acc hop hcore
  obtain ⟨t, hnext, hA, hC, hZN, hmem, hregs, hflags, hPC, hframe⟩ := exists_next_shift hbase (hexec s)
  obtain ⟨hresult, hout⟩ := hint s.A (s.flag .C)
  change t.A = _ at hA
  exact ⟨t, hnext, hA ▸ hresult, hC.trans hout, hA ▸ hZN, hregs, hflags, hPC, fun c => hmem c List.not_mem_nil, hframe⟩

/-- The whole effect of a shift of a byte of memory, on integers; a page crossing its mode reports costs nothing. -/
theorem exists_next_shift_mem {i : Instr} {form : MemForm} {f : Nat → Nat → Nat} {k : Nat} (hop : i.operand = .mem form)
    (hshift : shiftOf i.mnemonic = some (f, k)) (s : State) :
    let a := (resolveMem form (s.advance i.size)).address
    ∃ t, exec i s = .next t ∧ (t.read a).toNat = f (s.read a).toNat (if s.flag .C then 1 else 0) ∧
      t.flag .C = (s.read a).getLsbD k ∧ ZNOf (t.read a) t ∧ SameMemoryExcept [a] s t ∧ SameRegsExcept [] s t ∧
      SameFlagsExcept [.N, .Z, .C] s t ∧ FallsThrough i s t ∧ SameBookkeeping s t ∧ Costs i 0 t := by
  intro a
  obtain ⟨core, hcore, hint⟩ := exists_shiftCoreOf_of_shiftOf hshift
  obtain ⟨base, hbase, hexec⟩ := exec_next_of_mem hop rfl (memExecutor_of_shiftCoreOf hcore)
  obtain ⟨t, hnext, hread, hC, hZN, hframe⟩ := exists_next_shift hbase (hexec s)
  obtain ⟨hresult, hout⟩ := hint (s.read a) (s.flag .C)
  change t.read a = _ at hread
  exact ⟨t, hnext, hread ▸ hresult, hC.trans hout, hread ▸ hZN, hframe⟩

/-! So a row needs only its operand and the function of its mnemonic. -/

/-- Settles O39, from the effect of a shift on integers. -/
theorem shiftsOfAccumulatorAndMemory : Obligations.ShiftsOfAccumulatorAndMemory := by
  refine fun s b w => ⟨fun r hr => exists_next_shift_acc ?_ ?_ s, fun r hr => exists_next_shift_mem ?_ ?_ s⟩
  all_goals fin_cases hr <;> rfl

/-- Settles O40, from the effect of a shift on integers. -/
theorem rotatesThroughCarry : Obligations.RotatesThroughCarry := by
  refine fun s b w => ⟨fun r hr => exists_next_shift_acc ?_ ?_ s, fun r hr => exists_next_shift_mem ?_ ?_ s⟩
  all_goals fin_cases hr <;> rfl

end Sys2Proof.Machine
end

section
/-! PROOFS. Subroutine call and return (44 R280, R281): where a pushed word lies and where a pulled one is read, and what a jump after
either leaves unchanged. -/

namespace Sys2Proof.Machine

/-- An instruction that changes the state to `u`, jumps to `a` and costs its base alone: but for PC and the cost, `u` is left. -/
theorem exists_next_jump {i : Instr} {s u : State} {a : Address} {base : Nat} (hbase : i.tableBase = some base)
    (hexec : exec i s = .next ((u.setPC a).setRemaining base)) :
    ∃ t, exec i s = .next t ∧ t.PC = a ∧ SameMemory u t ∧ SameRegsExcept [] u t ∧ SameFlagsExcept [] u t ∧
      SameBookkeeping u t ∧ Costs i 0 t :=
  ⟨_, hexec, rfl, fun _ => rfl, fun _ _ => rfl, fun _ _ => rfl, ⟨rfl, rfl⟩, base, hbase, rfl⟩

/-! JSR (44 R280): a pushed word. -/

/-- The high byte of a pushed word lies where SP pointed: the low byte, pushed after it, lies elsewhere. -/
theorem pushWord_read_high (s : State) (w : Address) : (s.pushWord w).read (stackAddr s.SP) = highByte w := by
  have hne : stackAddr (s.SP - 1) ≠ stackAddr s.SP := by
    rw [Ne, stackAddr_inj]
    bv_omega
  rw [pushWord_read, if_neg hne, if_pos rfl]

/-- Its low byte lies one below, modulo 256. -/
theorem pushWord_read_low (s : State) (w : Address) : (s.pushWord w).read (stackAddr (s.SP - 1)) = lowByte w := by
  rw [pushWord_read, if_pos rfl]

/-- The frame of a pushed word in memory: every byte but those two. -/
theorem pushWord_sameMemoryExcept (s : State) (w : Address) :
    SameMemoryExcept [stackAddr s.SP, stackAddr (s.SP - 1)] s (s.pushWord w) := by
  intro a ha
  obtain ⟨hhigh, hlow⟩ : a ≠ stackAddr s.SP ∧ a ≠ stackAddr (s.SP - 1) := by simpa using ha
  rw [pushWord_read, if_neg hlow.symm, if_neg hhigh.symm]

/-- Pushing a word moves SP two down, modulo 256. -/
theorem pushWord_SP_eq_sub_two (s : State) (w : Address) : (s.pushWord w).SP = s.SP - 2 := by
  rw [pushWord_SP, BitVec.sub_sub]
  rfl

/-- The only register that pushing a word changes is SP. -/
theorem pushWord_sameRegsExcept (s : State) (w : Address) : SameRegsExcept [.SP] s (s.pushWord w) := by
  intro r hr
  cases r with
  | A => exact pushWord_A s w
  | X => exact pushWord_X s w
  | Y => exact pushWord_Y s w
  | SP => exact absurd (List.mem_singleton_self _) hr

/-- JSR pushes the address of its own last byte: PC is past its 3 bytes, and it pushes one less. -/
theorem exec_jsr_next (w : Address) (s : State) :
    exec (.jsr w) s = .next ((((s.advance 3).pushWord (s.PC + 2)).setPC w).setRemaining 6) := by
  have hlast : (s.advance 3).PC - 1 = s.PC + 2 := by
    rw [advance_PC]
    bv_omega
  rw [← hlast]
  rfl

/-- Settles O43: a jump from the state with the return word pushed. -/
theorem jumpToSubroutinePushesItsLastByte : Obligations.JumpToSubroutinePushesItsLastByte := by
  intro s w
  obtain ⟨t, hnext, hPC, hmem, hregs, hflags, ⟨htotal, hhalted⟩, hcost⟩ := exists_next_jump (tableBase_jsr w) (exec_jsr_next w s)
  exact ⟨t, hnext, hPC, (hregs .SP List.not_mem_nil).trans (pushWord_SP_eq_sub_two _ _),
    (hmem _).trans (pushWord_read_high _ _), (hmem _).trans (pushWord_read_low _ _),
    fun a ha => (hmem a).trans (pushWord_sameMemoryExcept _ _ a ha),
    fun r hr => (hregs r List.not_mem_nil).trans (pushWord_sameRegsExcept _ _ r hr),
    fun f hf => (hflags f hf).trans (pushWord_flag _ _ f),
    ⟨htotal.trans (pushWord_total _ _), hhalted.trans (pushWord_halted _ _)⟩, hcost⟩

/-! RTS (44 R281): a pulled word. -/

/-- The second of two pulls reads two above SP, modulo 256. -/
theorem top_pop (s : State) : s.pop.top = s.read (stackAddr (s.SP + 2)) := by
  rw [top_eq, pop_read, pop_SP, BitVec.add_assoc]
  rfl

/-- Two pulls move SP two up, modulo 256. -/
theorem pop_pop_SP (s : State) : s.pop.pop.SP = s.SP + 2 := by
  rw [pop_SP, pop_SP, BitVec.add_assoc]
  rfl

/-- The only register that a pull changes is SP. -/
theorem pop_sameRegsExcept (s : State) : SameRegsExcept [.SP] s s.pop := by
  intro r hr
  cases r with
  | A | X | Y => rfl
  | SP => exact absurd (List.mem_singleton_self _) hr

/-- RTS pulls a word, low byte first, and jumps one past it. -/
theorem exec_rts_next (s : State) :
    exec .rts s = .next (((s.advance 1).pop.pop.setPC
      (wordOf (s.read (stackAddr (s.SP + 2))) (s.read (stackAddr (s.SP + 1))) + 1)).setRemaining 6) := by
  rw [exec_rts, execOne_next, rtsOp, top_pop, top_eq]
  rfl

/-- Settles O44: a jump from the state with two bytes pulled. -/
theorem returnFromSubroutinePullsAndAddsOne : Obligations.ReturnFromSubroutinePullsAndAddsOne := by
  intro s
  obtain ⟨t, hnext, hPC, hmem, hregs, hflags, hkept, hcost⟩ := exists_next_jump tableBase_rts (exec_rts_next s)
  exact ⟨t, hnext, hPC, (hregs .SP List.not_mem_nil).trans (pop_pop_SP _), hmem,
    fun r hr => (hregs r List.not_mem_nil).trans ((pop_sameRegsExcept _ r hr).trans (pop_sameRegsExcept _ r hr)),
    hflags, hkept, hcost⟩

end Sys2Proof.Machine
end

section
/-! PROOFS. PHA, PLA, RTI and NOP (45 R300, R302, R312, R313): what a push, a pull into A and the return from a trap leave of the
state, and PC and the cost by the rule for an instruction that sets PC. -/

namespace Sys2Proof.Machine

/-! PHA: a pushed byte. -/

/-- The only register that a push changes is SP. -/
theorem push_sameRegsExcept (s : State) (v : Byte) : SameRegsExcept [.SP] s (s.push v) := by
  intro r hr
  cases r with
  | A => exact push_A s v
  | X => exact push_X s v
  | Y => exact push_Y s v
  | SP => exact absurd (List.mem_singleton_self _) hr

/-- An instruction that advances PC, pushes `v` and costs its base alone: the whole effect, with its frame. -/
theorem exists_next_push {i : Instr} {s : State} {v : Byte} {base : Nat} (hbase : i.tableBase = some base)
    (hexec : exec i s = .next (((s.advance i.size).push v).setRemaining base)) :
    ∃ t, exec i s = .next t ∧ t.read (stackAddr s.SP) = v ∧ t.SP = s.SP - 1 ∧ SameMemoryExcept [stackAddr s.SP] s t ∧
      SameRegsExcept [.SP] s t ∧ SameFlagsExcept [] s t ∧ FallsThrough i s t ∧ SameBookkeeping s t ∧ Costs i 0 t := by
  obtain ⟨t, hnext, hPC, hmem, hregs, hflags, ⟨htotal, hhalted⟩, hcost⟩ := exists_next_jump (u := s.push v) hbase hexec
  exact ⟨t, hnext, (hmem _).trans (push_read_stackAddr s v), (hregs .SP List.not_mem_nil).trans (push_SP s v),
    fun a ha => (hmem a).trans (push_sameMemoryExcept s v a ha),
    fun r hr => (hregs r List.not_mem_nil).trans (push_sameRegsExcept s v r hr),
    fun f hf => (hflags f hf).trans (push_flag s v f), hPC,
    ⟨htotal.trans (push_total s v), hhalted.trans (push_halted s v)⟩, hcost⟩

/-! PLA: a byte pulled into A. -/

/-- The registers that a pull into A changes are A and SP. -/
theorem pop_loadA_sameRegsExcept (s : State) (v : Byte) : SameRegsExcept [.A, .SP] s (s.pop.loadA v) := by
  intro r hr
  cases r with
  | X | Y => rfl
  | A | SP => exact absurd (by decide) hr

/-- The flags that a pull into A leaves alone. -/
theorem pop_loadA_sameFlagsExcept (s : State) (v : Byte) : SameFlagsExcept [.N, .Z] s (s.pop.loadA v) :=
  (setZN_sameFlagsExcept (s.pop.setA v) v).mono (by decide)

/-- PLA loads the byte one above SP, with SP moved there. -/
theorem exec_pla_next (s : State) :
    exec .pla s = .next (((s.pop.loadA (s.read (stackAddr (s.SP + 1)))).setPC (s.PC + 1)).setRemaining 4) := by
  rw [exec_pla, execOne_next, plaOp, top_eq]
  rfl

/-- Settles O46: a push of A, and a pull into A. -/
theorem pushAndPullOfA : Obligations.PushAndPullOfA := by
  refine fun s => ⟨exists_next_push tableBase_pha (exec_pha s), ?_⟩
  obtain ⟨t, hnext, hPC, hmem, hregs, hflags, hkept, hcost⟩ := exists_next_jump tableBase_pla (exec_pla_next s)
  have hA : t.A = s.read (stackAddr (s.SP + 1)) := hregs .A List.not_mem_nil
  obtain ⟨hZ, hN⟩ := setZN_znOf s.pop (s.read (stackAddr (s.SP + 1)))
  have hZN : ZNOf t.A t := hA ▸ ⟨(hflags .Z List.not_mem_nil).trans hZ, (hflags .N List.not_mem_nil).trans hN⟩
  exact ⟨t, hnext, hA, hregs .SP List.not_mem_nil, hZN, hmem,
    fun r hr => (hregs r List.not_mem_nil).trans (pop_loadA_sameRegsExcept s _ r hr),
    fun f hf => (hflags f List.not_mem_nil).trans (pop_loadA_sameFlagsExcept s _ f hf), hPC, hkept, hcost⟩

/-! RTI: three pulled bytes. -/

/-- Three pulls move SP three up, modulo 256. -/
theorem returnFromBreak_SP_eq_add_three (s : State) : s.returnFromBreak.SP = s.SP + 3 := by
  rw [returnFromBreak_SP, BitVec.add_assoc, BitVec.add_assoc]
  rfl

/-- The return from a trap goes to the second and third bytes pulled, low byte first, with nothing added. -/
theorem returnFromBreak_PC_eq_wordOf (s : State) :
    s.returnFromBreak.PC = wordOf (s.read (stackAddr (s.SP + 3))) (s.read (stackAddr (s.SP + 2))) := by
  rw [returnFromBreak_PC, BitVec.add_assoc s.SP 1 1, BitVec.add_assoc s.SP (1 + 1) 1]
  rfl

/-- The only register other than P and PC that the return from a trap changes is SP. -/
theorem returnFromBreak_sameRegsExcept (s : State) : SameRegsExcept [.SP] s s.returnFromBreak := by
  intro r hr
  cases r with
  | A => exact returnFromBreak_A s
  | X => exact returnFromBreak_X s
  | Y => exact returnFromBreak_Y s
  | SP => exact absurd (List.mem_singleton_self _) hr

/-- RTI returns from the trap: the PC it has advanced is overwritten. -/
theorem exec_rti_next (s : State) :
    exec .rti s = .next ((s.returnFromBreak.setPC s.returnFromBreak.PC).setRemaining 6) := rfl

/-- Settles O51: a jump from the state that the return from a trap leaves. -/
theorem returnFromBreakRestoresStatusAndPC : Obligations.ReturnFromBreakRestoresStatusAndPC := by
  intro s
  obtain ⟨t, hnext, hPC, hmem, hregs, hflags, ⟨htotal, hhalted⟩, hcost⟩ := exists_next_jump tableBase_rti (exec_rti_next s)
  have hflag : ∀ f, t.flag f = if f = .B ∨ f = .U then false else (s.read (stackAddr (s.SP + 1))).getLsbD f.bit := fun f =>
    (hflags f List.not_mem_nil).trans ((returnFromBreak_flag s f).trans (flagOf_pulledStatus f _))
  exact ⟨t, hnext, hflag .B, hflag .U, fun f hB hU => (hflag f).trans (if_neg (not_or.mpr ⟨hB, hU⟩)),
    hPC.trans (returnFromBreak_PC_eq_wordOf s), (hregs .SP List.not_mem_nil).trans (returnFromBreak_SP_eq_add_three s),
    fun a => (hmem a).trans (returnFromBreak_read s a),
    fun r hr => (hregs r List.not_mem_nil).trans (returnFromBreak_sameRegsExcept s r hr),
    ⟨htotal.trans (returnFromBreak_total s), hhalted.trans (returnFromBreak_halted s)⟩, hcost⟩

/-! NOP: no executor effect. -/

/-- Settles O53: the advance moves PC alone, and the cost is the base. -/
theorem nopOnlyAdvances : Obligations.NopOnlyAdvances := fun s =>
  ⟨(s.advance 1).setRemaining 2, exec_nop s, fun r _ => advance_reg s 1 r, fun f _ => advance_flag s 1 f, advance_PC s 1,
    advance_read s 1, ⟨advance_total s 1, advance_halted s 1⟩, setRemaining_remaining _ 2⟩

end Sys2Proof.Machine
end

section
/-! PROOFS. The sequencer's counting step (46 R342): with nothing latched and `remaining` above 0, a Step is one tick. -/

namespace Sys2Proof.Machine

/-- A counting step is the tick alone: nothing is fetched (46 R342). -/
theorem step_eq_tick {s : State} (hlatch : s.halted = none) (hcount : 0 < s.remaining) : step s = .next s.tick := by
  simp only [step, hlatch]
  exact if_neg hcount.ne'

/-- A counting step reports that it ticked (46 R342, R354). -/
theorem stepResult_eq_ticked {s : State} (hlatch : s.halted = none) (hcount : 0 < s.remaining) : stepResult s = .ticked := by
  simp only [stepResult, hlatch]
  exact if_neg hcount.ne'

/-- Settles O8: a counting step is a tick, which writes the two counters and nothing else. -/
theorem countingStepOnlyTicks : Obligations.CountingStepOnlyTicks :=
  fun _ hlatch hcount => ⟨step_eq_tick hlatch hcount, stepResult_eq_ticked hlatch hcount⟩

end Sys2Proof.Machine
end

section
/-! PROOFS. The decoder and the encoder are inverse (30 R90 to R98): the row found at an instruction's opcode byte rebuilds it from its
encoded operand, and what a decode read is the encoding of what it made. From these, the facts about one decoded instruction. -/

namespace Sys2Proof

/-- The row at an instruction's opcode byte names it, and makes it of any bytes that stand for its operand. -/
theorem Instr.exists_row (i : Instr) :
    ∃ r, lookupOpcode i.opcode = some r ∧ r.mnemonic = i.mnemonic ∧ r.mode = i.mode ∧
      ∀ b1 b2, i.operand = i.mode.operandOf b1 b2 → r.build b1 b2 = i := by
  cases i <;> dsimp only [Instr.opcode] <;>
    refine ⟨_, rfl, rfl, rfl, fun b1 b2 hoperand => ?_⟩ <;>
    cases hoperand <;>
    rfl

/-- The encoding of an operand is as many bytes as its mode's format takes. -/
theorem Operand.exists_bytes_eq (o : Operand) : ∃ b1 b2, o.bytes = o.mode.format.operands b1 b2 := by
  cases o with
  | acc | imp => exact ⟨0, 0, rfl⟩
  | rel d => exact ⟨_, 0, rfl⟩
  | mem f =>
    cases f with
    | imm | zp | zpX | zpY | xInd | indY => exact ⟨_, 0, rfl⟩
    | abs | absX | absY | ind => exact ⟨_, _, rfl⟩

/-- Decoding takes exactly the operand bytes of the row's format, and the row builds the instruction of them. -/
theorem exists_decode_eq {op : Byte} {r : OpcodeRow} (h : lookupOpcode op = some r) (b1 b2 : Byte) (rest : List Byte) :
    ∃ c1 c2, r.mode.format.operands b1 b2 = r.mode.format.operands c1 c2 ∧
      decode (op :: (r.mode.format.operands b1 b2 ++ rest)) = .ok (r.build c1 c2, rest) := by
  cases hf : r.mode.format with
  | one => exact ⟨0, 0, rfl, decode_one h hf rest⟩
  | two => exact ⟨b1, 0, rfl, decode_two h hf b1 rest⟩
  | three => exact ⟨b1, b2, rfl, decode_three h hf b1 b2 rest⟩

/-- Settles O1: the row at the opcode rebuilds the instruction, since its operand is the one its bytes stand for. -/
theorem decodeOfEncodeIsTheInstruction : Obligations.DecodeOfEncodeIsTheInstruction := by
  intro i rest hwf
  obtain ⟨r, hr, -, hmode, hbuild⟩ := i.exists_row
  obtain ⟨b1, b2, hbytes⟩ := i.operand.exists_bytes_eq
  obtain ⟨c1, c2, hc, hdecode⟩ := exists_decode_eq hr b1 b2 rest
  rw [hmode] at hc hdecode
  have hoperand : i.operand = i.mode.operandOf c1 c2 := Operand.eq_operandOf hwf (hbytes.trans hc)
  rw [hbuild c1 c2 hoperand] at hdecode
  rwa [encode, hbytes]

/-- Settles O2: a decode that succeeds has read a row's opcode and operand bytes, and every row is sound. -/
theorem encodeOfDecodedIsTheBytes : Obligations.EncodeOfDecodedIsTheBytes := by
  intro bytes rest i h
  obtain ⟨op, r, b1, b2, hr, rfl, rfl⟩ := decode_cases h
  obtain ⟨rfl, hsound⟩ := lookup_sound hr
  exact ⟨hsound.wf b1 b2, by rw [hsound.bytes, List.cons_append]⟩

/-! The length and the row of a decoded instruction (30 R90, R91, R93). -/

/-- An operand is one byte shorter than an instruction of its mode. -/
theorem Operand.bytes_length (o : Operand) : o.bytes.length + 1 = o.mode.size := by
  obtain ⟨b1, b2, hbytes⟩ := o.exists_bytes_eq
  rw [hbytes, Mode.size]
  cases o.mode.format <;> rfl

/-- An instruction encodes to as many bytes as its row's length. -/
theorem encode_length (i : Instr) : (encode i).length = i.size := i.operand.bytes_length

/-- The mnemonic, the mode and the opcode of a decoded instruction are those of the row at the first byte. -/
theorem decode_row {op : Byte} {tail rest : List Byte} {i : Instr} (h : decode (op :: tail) = .ok (i, rest)) :
    ∃ r, lookupOpcode op = some r ∧ i.mnemonic = r.mnemonic ∧ i.mode = r.mode ∧ i.opcode = op := by
  obtain ⟨_, r, b1, b2, hr, rfl, hread⟩ := decode_cases h
  obtain ⟨rfl, -⟩ := List.cons.inj hread
  obtain ⟨hop, hsound⟩ := lookup_sound hr
  exact ⟨r, hr, hsound.mnemonic b1 b2, hsound.mode b1 b2, (List.cons.inj (hsound.bytes b1 b2)).1.trans hop⟩

/-- The lengths of the thirteen modes, by their formats (30 R91). -/
theorem Mode.size_eq (m : Mode) :
    (m ∈ [Mode.acc, .imp] → m.size = 1) ∧
    (m ∈ [Mode.imm, .zp, .zpX, .zpY, .rel, .xInd, .indY] → m.size = 2) ∧
    (m ∈ [Mode.abs, .absX, .absY, .ind] → m.size = 3) := by
  cases m <;> decide

/-- Settles O5: both instructions come from the row at their first byte, and what was read is an encoding. -/
theorem firstByteDecidesRowAndLength : Obligations.FirstByteDecidesRowAndLength := by
  refine ⟨fun op r1 r2 t1 t2 i j hi hj => ?_, fun i => ⟨encode_length i, i.mode.size_eq⟩⟩
  obtain ⟨r, hr, hmn, hmode, hop⟩ := decode_row hi
  obtain ⟨q, hq, hmn', hmode', hop'⟩ := decode_row hj
  obtain rfl : r = q := Option.some.inj (hr.symm.trans hq)
  have hsame : i.mode = j.mode := hmode.trans hmode'.symm
  refine ⟨hmn.trans hmn'.symm, hsame, congrArg Mode.size hsame, ?_, ?_⟩
  · rw [Instr.tableBase, Instr.tableBase, hop, hop']
  · rw [(encodeOfDecodedIsTheBytes _ _ _ hi).2, List.length_append, encode_length]

/-- Settles O4: the bytes without a row are read off the table, and a decode rejects such a byte by name. -/
theorem undefinedOpcodesHaveNoTableEntry : Obligations.UndefinedOpcodesHaveNoTableEntry := by
  refine ⟨rfl, fun op rest => ⟨?_, fun h => by simp [decode, h]⟩⟩
  revert op
  decide

/-- A word decodes to the instruction whose encoding it is, with nothing left over. -/
theorem decode_of_encode_eq {i : Instr} {word : List Byte} (hwf : i.wf) (h : encode i = word) : decode word = .ok (i, []) := by
  simpa [h] using decodeOfEncodeIsTheInstruction i [] hwf

/-- Settles O6: each word is the encoding of its instruction. -/
theorem wordsOfEveryFamilyDecode : Obligations.WordsOfEveryFamilyDecode := by
  refine ⟨?_, ?_, ?_, ?_, ?_, ?_, ?_, ?_, ?_, ?_, ?_, ?_, ?_, ?_, ?_, ?_, ?_, ?_⟩
  all_goals exact decode_of_encode_eq rfl (by decide)

/-- Settles O26: PC - 1 after the advance of an Immediate instruction is the address after the opcode. -/
theorem immediateOperandIsTheByteRead : Obligations.ImmediateOperandIsTheByteRead := by
  intro s i rest b h hop
  have hmode : i.mode = .imm := congrArg Operand.mode hop
  have hoperand := decode_operand h
  rw [hop, hmode] at hoperand
  obtain ⟨rfl⟩ : b = s.read (s.PC + 1) := by simpa [Mode.operandOf] using hoperand
  have haddr : s.PC + 2 - 1 = s.PC + 1 := by bv_omega
  exact congrArg s.read ((congrArg (fun m : Mode => s.PC + BitVec.ofNat 16 m.size - 1) hmode).trans haddr)

end Sys2Proof
end

section
/-! PROOFS. The sequencer (46 R340 to R349, 60 R380 to R382): which of the four kinds of Step a state takes and what it reports, the
invariant kept by each kind and by every host operation, and the length of an instruction in Steps. -/

namespace Sys2Proof.Machine

/-! The kinds of Step, forwards; the counting step is `step_eq_tick`. -/

/-- A halted step changes nothing (46 R341). -/
theorem step_eq_self {s : State} {e : DecodeError} (hlatch : s.halted = some e) : step s = .next s := by
  simp only [step, hlatch]

/-- It reports the latched error (46 R341, R354). -/
theorem stepResult_eq_latched {s : State} {e : DecodeError} (hlatch : s.halted = some e) :
    stepResult s = .decodeError e.byte e.addr := by
  simp only [stepResult, hlatch]

/-- The step that meets an undefined opcode raises the decode error (60 R381). -/
theorem step_eq_raiseDecodeError {s : State} (hlatch : s.halted = none) (hcount : s.remaining = 0) (hfetch : fetch s = none) :
    step s = .next (s.raiseDecodeError (s.read s.PC) s.PC) := by
  simp only [step, hlatch, hcount, if_true, dispatchStep, hfetch]

/-- It reports the error it raises (60 R381, 46 R354). -/
theorem stepResult_eq_raised {s : State} (hlatch : s.halted = none) (hcount : s.remaining = 0) (hfetch : fetch s = none) :
    stepResult s = .decodeError (s.read s.PC) s.PC := by
  simp only [stepResult, hlatch, hcount, if_true, hfetch]

/-- The dispatch step runs the instruction fetched and ticks (46 R343). -/
theorem step_eq_dispatch {s t : State} {i : Instr} (hlatch : s.halted = none) (hcount : s.remaining = 0)
    (hfetch : fetch s = some i) (hexec : exec i s = .next t) : step s = .next t.tick := by
  simp only [step, hlatch, hcount, if_true, dispatchStep, hfetch, hexec]

/-- It reports the instruction dispatched (46 R354). -/
theorem stepResult_eq_dispatched {s : State} {i : Instr} (hlatch : s.halted = none) (hcount : s.remaining = 0)
    (hfetch : fetch s = some i) : stepResult s = .dispatched i.mnemonic i.mode (s.read s.PC) s.PC := by
  simp only [stepResult, hlatch, hcount, if_true, hfetch]

/-- The instruction that the bytes at PC decode to is the one fetched. -/
theorem fetch_eq_some {s : State} {i : Instr} {rest : List Byte} (h : decode (fetchBytes s) = .ok (i, rest)) : fetch s = some i := by
  simp only [fetch, h]

/-- Settles O7: the instruction fetched answers a next state, and the dispatch step ticks it. -/
theorem stepRunsTheDecodedInstruction : Obligations.StepRunsTheDecodedInstruction := by
  intro s i rest hlatch hcount hdecode
  have hfetch := fetch_eq_some hdecode
  obtain ⟨t, hexec, -⟩ := exec_tame i s
  exact ⟨(encodeOfDecodedIsTheBytes _ _ _ hdecode).1, stepResult_eq_dispatched hlatch hcount hfetch,
    t, hexec, step_eq_dispatch hlatch hcount hfetch hexec⟩

/-- Settles O9: a fetch fails exactly on an undefined opcode, and a latched state is stepped to itself. -/
theorem undefinedOpcodeLatchesAndHalts : Obligations.UndefinedOpcodeLatchesAndHalts := by
  refine ⟨fun s hlatch hcount hop => ?_, fun s e hlatch => ⟨step_eq_self hlatch, stepResult_eq_latched hlatch⟩⟩
  have hfetch : fetch s = none := (fetch_none_iff s).mpr hop
  exact ⟨step_eq_raiseDecodeError hlatch hcount hfetch, stepResult_eq_raised hlatch hcount hfetch⟩

/-- Settles O10, by the four kinds of Step. -/
theorem everyStepIsCountedUnlessHalted : Obligations.EveryStepIsCountedUnlessHalted := by
  intro s
  obtain ⟨t, hstep⟩ := step_next s
  refine ⟨t, hstep, ?_⟩
  rcases step_cases hstep with ⟨e, hlatch, rfl⟩ | ⟨hlatch, hcount, rfl⟩ | ⟨hlatch, hcount, hfetch, rfl⟩ |
    ⟨i, u, hlatch, hcount, hfetch, hexec, rfl⟩
  case inl => exact ⟨fun h => absurd (hlatch.symm.trans h) nofun, fun _ => ⟨rfl, rfl⟩⟩
  case inr.inl =>
    exact ⟨fun _ => ⟨rfl, fun _ => Nat.sub_add_cancel hcount, fun h => absurd h hcount.ne'⟩, fun h => absurd hlatch h⟩
  case inr.inr.inl => exact ⟨nofun, fun _ => ⟨rfl, rfl⟩⟩
  case inr.inr.inr =>
    obtain ⟨_, hexec', htame, hlo, -⟩ := exec_tame i s
    obtain ⟨⟩ := hexec.symm.trans hexec'
    refine ⟨fun _ => ⟨congrArg (· + 1) htame.total, fun h => absurd hcount h.ne', fun _ => ⟨i, u, hfetch, hexec, ?_⟩⟩,
      fun h => absurd (htame.halted.trans hlatch) h⟩
    exact Nat.sub_add_cancel (by omega)

/-! The invariant. -/

/-- A state with nothing latched has nothing to keep about the latch. -/
theorem latchWf_of_halted_eq_none {s : State} (h : s.halted = none) : s.latchWf := by
  intro e he
  rw [h] at he
  cases he

/-- Settles O11, by the four kinds of Step. -/
theorem stepKeepsTheInvariant : Obligations.StepKeepsTheInvariant := by
  intro s t hinv hstep
  rcases step_cases hstep with ⟨e, hlatch, rfl⟩ | ⟨hlatch, hcount, rfl⟩ | ⟨hlatch, hcount, hfetch, rfl⟩ |
    ⟨i, u, hlatch, hcount, hfetch, hexec, rfl⟩
  case inl => exact hinv
  case inr.inl => exact ⟨hinv.memory, (Nat.sub_le _ _).trans hinv.countdown, latchWf_of_halted_eq_none hlatch⟩
  case inr.inr.inl =>
    refine ⟨hinv.memory, hinv.countdown, fun e he => ?_⟩
    obtain rfl : _ = e := Option.some.inj he
    exact ⟨(fetch_none_iff s).mp hfetch, rfl, hcount⟩
  case inr.inr.inr =>
    obtain ⟨_, hexec', htame, -, hhi⟩ := exec_tame i s
    obtain ⟨⟩ := hexec.symm.trans hexec'
    exact ⟨htame.memory hinv.memory, Nat.sub_le_of_le_add hhi, latchWf_of_halted_eq_none (htame.halted.trans hlatch)⟩

/-- Storing bytes changes nothing but memory (46 R356). -/
theorem hostLoad_eq_with_mem (bytes : List Byte) (offset : Address) (s : State) :
    hostLoad bytes offset s = { s with mem := (hostLoad bytes offset s).mem } := by
  induction bytes generalizing s offset with
  | nil => rfl
  | cons v vs ih => exact ih (offset + 1) (s.write offset v)

@[simp] theorem hostLoad_PC (bytes : List Byte) (offset : Address) (s : State) : (hostLoad bytes offset s).PC = s.PC := by
  rw [hostLoad_eq_with_mem]

@[simp] theorem hostLoad_remaining (bytes : List Byte) (offset : Address) (s : State) :
    (hostLoad bytes offset s).remaining = s.remaining := by
  rw [hostLoad_eq_with_mem]

@[simp] theorem hostLoad_halted (bytes : List Byte) (offset : Address) (s : State) :
    (hostLoad bytes offset s).halted = s.halted := by
  rw [hostLoad_eq_with_mem]

@[simp] theorem hostLoad_flag (bytes : List Byte) (offset : Address) (s : State) (f : Flag) :
    (hostLoad bytes offset s).flag f = s.flag f := by
  rw [hostLoad_eq_with_mem]
  rfl

theorem hostLoad_inv {s : State} (h : s.Inv) (bytes : List Byte) (offset : Address) : (hostLoad bytes offset s).Inv where
  memory := writeBytes_keeps_wf h.memory bytes offset
  countdown := by simpa using h.countdown
  latch := by simpa [State.latchWf] using h.latch

theorem hostReset_inv {s : State} (h : s.mem.wf) (clearStatus : Bool) : (hostReset clearStatus s).Inv :=
  ⟨h, Nat.zero_le 6, latchWf_of_halted_eq_none rfl⟩

theorem resumePast_inv {s : State} (h : s.Inv) : (resumePast s).Inv := by
  unfold resumePast
  split
  · exact ⟨h.memory, h.countdown, latchWf_of_halted_eq_none rfl⟩
  · exact h

/-- Every host operation answers a next state and keeps the invariant. -/
theorem exists_hostOp_next_inv {s : State} (h : s.Inv) (op : HostOp) : ∃ t, hostOp op s = .next t ∧ t.Inv := by
  cases op with
  | step =>
    obtain ⟨t, hstep⟩ := step_next s
    exact ⟨t, hstep, stepKeepsTheInvariant s t h hstep⟩
  | inspect => exact ⟨s, rfl, h⟩
  | load bytes offset => exact ⟨_, rfl, hostLoad_inv h bytes offset⟩
  | reset clearStatus => exact ⟨_, rfl, hostReset_inv h.memory clearStatus⟩
  | resumePast => exact ⟨_, rfl, resumePast_inv h⟩

/-- Settles O13, by induction on the operations. -/
theorem hostOperationsKeepTheInvariant : Obligations.HostOperationsKeepTheInvariant := by
  intro ops
  induction ops with
  | nil => exact fun s h => ⟨s, rfl, h⟩
  | cons op ops ih =>
    intro s h
    obtain ⟨t, hop, ht⟩ := exists_hostOp_next_inv h op
    obtain ⟨u, hrun, hu⟩ := ih t ht
    exact ⟨u, by simp only [hostRun, hop, hrun], hu⟩

/-- Power-on has the invariant whatever the registers hold (70 R416). -/
theorem powerOn_inv (r : PowerOnRegisters) : (powerOn r).Inv :=
  ⟨⟨List.Pairwise.nil, nofun⟩, Nat.zero_le 6, latchWf_of_halted_eq_none rfl⟩

/-- `State.reset` is a clearing Reset at power-on, whatever SP, PC and P held (70 R410 to R416). -/
theorem reset_eq_hostReset_powerOn (sp p : Byte) (pc : Address) : State.reset = hostReset true (powerOn ⟨0, 0, 0, sp, pc, p⟩) :=
  have hzero : State.reset = hostReset true (powerOn ⟨0, 0, 0, 0, 0, 0⟩) := by decide
  hzero.trans rfl

/-- Settles O12: power-on has the invariant, and a Reset keeps it. -/
theorem invariantHoldsAfterResetAndPowerOn : Obligations.InvariantHoldsAfterResetAndPowerOn := by
  refine ⟨?_, powerOn_inv⟩
  rw [reset_eq_hostReset_powerOn 0 0 0]
  exact hostReset_inv (powerOn_inv _).memory true

/-! Runs of Steps. -/

/-- A latched state is run to itself (46 R341). -/
theorem run_eq_self {s : State} (h : s.halted ≠ none) (n : Nat) : Sys2Proof.core.run n s = .next s := by
  obtain ⟨e, he⟩ := Option.ne_none_iff_exists'.mp h
  induction n with
  | zero => rfl
  | succ n ih => rw [run_succ (step_eq_self he), ih]

/-- Settles O14: of the operations that answer, only Reset and ResumePast write the latch of a latched state. -/
theorem latchLeftOnlyByResetOrResumePast : Obligations.LatchLeftOnlyByResetOrResumePast := by
  refine ⟨fun op s t hlatched hop hcleared => ?_, fun n s hlatched => run_eq_self hlatched n⟩
  obtain ⟨e, he⟩ := Option.ne_none_iff_exists'.mp hlatched
  cases op with
  | reset c => exact .inl ⟨c, rfl⟩
  | resumePast => exact .inr rfl
  | step =>
    obtain ⟨⟩ := (step_eq_self he).symm.trans hop
    exact absurd hcleared hlatched
  | inspect =>
    cases hop
    exact absurd hcleared hlatched
  | load bytes offset =>
    cases hop
    exact absurd ((hostLoad_halted bytes offset s).symm.trans hcleared) hlatched

/-- Counting steps run down `remaining` and add it to `total`. -/
theorem run_countdown {s : State} (hlatch : s.halted = none) {n : Nat} (hcount : s.remaining = n) :
    Sys2Proof.core.run n s = .next { s with remaining := 0, total := s.total + n } := by
  induction n generalizing s with
  | zero =>
    cases s
    cases hcount
    rfl
  | succ n ih =>
    have htick : s.tick.remaining = n := by rw [tick_remaining, hcount, Nat.add_sub_cancel]
    rw [run_succ (step_eq_tick hlatch (hcount ▸ n.succ_pos)), ih (s := s.tick) hlatch htick, tick_total, Nat.add_assoc, Nat.add_comm 1]
    rfl

/-- Settles O15: one dispatch step, then counting steps for the cycles still owed. -/
theorem instructionCostsItsCyclesInSteps : Obligations.InstructionCostsItsCyclesInSteps := by
  intro s i rest hlatch hcount hdecode
  obtain ⟨t, hexec, htame, hlo, -⟩ := exec_tame i s
  refine ⟨t, hexec, hlo, ?_⟩
  obtain ⟨n, hn⟩ : ∃ n, t.remaining = n + 1 := Nat.exists_eq_succ_of_ne_zero (by omega)
  have htick : t.tick.remaining = n := by rw [tick_remaining, hn, Nat.add_sub_cancel]
  rw [hn, run_succ (step_eq_dispatch hlatch hcount (fetch_eq_some hdecode) hexec),
    run_countdown (s := t.tick) (htame.halted.trans hlatch) htick, tick_total, htame.total, Nat.add_assoc, Nat.add_comm 1]
  rfl

end Sys2Proof.Machine
end

section
/-! PROOFS. The rows that are neither loads, sums nor shifts: transfers and index changes as loads of a register, BIT, branches, JMP,
PHP and PLP, the flag instructions and BRK (41 section 3, 42 sections 3 and 5, 44 sections 1 and 2, 45 sections 1 to 3). -/

namespace Sys2Proof.Machine

/-! Transfers and index changes (41 section 3, 42 section 5). -/

/-- The only register that a write to SP changes is SP. -/
theorem setSP_sameRegsExcept (s : State) (v : Byte) : SameRegsExcept [.SP] s (s.setSP v) := by
  intro r hr
  cases r with
  | A | X | Y => rfl
  | SP => exact absurd (List.mem_singleton_self _) hr

/-- Settles O29: a transfer is a load of a register from another; TXS writes SP alone. -/
theorem transfersCopyARegister : Obligations.TransfersCopyARegister := by
  intro s
  simp only [List.forall_mem_cons]
  refine ⟨⟨exists_next_load (penalty := 0) loadX_eq_setReg tableBase_tax (exec_tax s),
    exists_next_load (penalty := 0) loadY_eq_setReg tableBase_tay (exec_tay s),
    exists_next_load (penalty := 0) loadA_eq_setReg tableBase_txa (exec_txa s),
    exists_next_load (penalty := 0) loadA_eq_setReg tableBase_tya (exec_tya s),
    exists_next_load (penalty := 0) loadX_eq_setReg tableBase_tsx (exec_tsx s), List.forall_mem_nil _⟩, ?_⟩
  obtain ⟨t, hnext, hPC, hmem, hregs, hflags, hkept, hcost⟩ := exists_next_jump (u := s.setSP s.X) tableBase_txs (exec_txs s)
  exact ⟨t, hnext, hregs .SP List.not_mem_nil,
    fun r hr => (hregs r List.not_mem_nil).trans (setSP_sameRegsExcept s s.X r hr), hflags, hPC, hmem, hkept, hcost⟩

/-- An instruction that loads an index register with a byte `k` above its old value, modulo 256. -/
theorem exists_next_load_add {i : Instr} {s : State} {r : Reg} {v : Byte} {k base : Nat} {load : State → Byte → State}
    (hload : ∀ u x, load u x = (u.setReg r x).setZN x) (hbase : i.tableBase = some base)
    (hexec : exec i s = .next ((load (s.advance i.size) v).setRemaining base)) (hv : v.toNat = ((s.reg r).toNat + k) % 256) :
    ∃ t, exec i s = .next t ∧ (t.reg r).toNat = ((s.reg r).toNat + k) % 256 ∧ ZNOf (t.reg r) t ∧
      SameRegsExcept [r] s t ∧ SameFlagsExcept [.N, .Z] s t ∧ FallsThrough i s t ∧ SameMemory s t ∧
      SameBookkeeping s t ∧ Costs i 0 t := by
  obtain ⟨t, hnext, hreg, hZN, hregs, hflags, hframe⟩ := exists_next_load (penalty := 0) hload hbase hexec
  exact ⟨t, hnext, hreg ▸ hv, hreg ▸ hZN, hregs, SameFlagsExcept.mono hflags (by decide), hframe⟩

/-- Settles O38: an increment adds 1 to an index register, a decrement 255. -/
theorem incrementAndDecrementIndex : Obligations.IncrementAndDecrementIndex := by
  intro s
  simp only [List.forall_mem_cons]
  exact ⟨exists_next_load_add loadX_eq_setReg tableBase_inx (exec_inx s) (BitVec.toNat_add s.X 1),
    exists_next_load_add loadY_eq_setReg tableBase_iny (exec_iny s) (BitVec.toNat_add s.Y 1),
    exists_next_load_add loadX_eq_setReg tableBase_dex (exec_dex s) (sub_one_toNat s.X),
    exists_next_load_add loadY_eq_setReg tableBase_dey (exec_dey s) (sub_one_toNat s.Y), List.forall_mem_nil _⟩

/-! BIT (42 section 3). -/

/-- What BIT writes of P: Z, N and V. -/
theorem bitOp_flag (op : MemOperand) (s : State) (f : Flag) :
    (bitOp op s).post.flag f =
      if f = .V then (s.read op.address).getLsbD 6 else if f = .N then (s.read op.address).getLsbD 7
      else if f = .Z then decide (s.A &&& s.read op.address = 0#8) else s.flag f := by
  simp [bitOp]

/-- An instruction that advances PC, tests the byte at `op` against A and costs its base alone: the whole effect, with its frame. -/
theorem exists_next_bit {i : Instr} {s : State} {op : MemOperand} {base : Nat} (hbase : i.tableBase = some base)
    (hexec : exec i s = .next ((bitOp op (s.advance i.size)).post.setRemaining base)) :
    let m := s.read op.address
    ∃ t, exec i s = .next t ∧ t.flag .Z = decide (s.A &&& m = 0#8) ∧ t.flag .N = m.getLsbD 7 ∧ t.flag .V = m.getLsbD 6 ∧
      SameRegsExcept [] s t ∧ SameFlagsExcept [.N, .V, .Z] s t ∧ FallsThrough i s t ∧ SameMemory s t ∧
      SameBookkeeping s t ∧ Costs i 0 t := by
  have hflag := bitOp_flag op (s.advance i.size)
  refine ⟨_, hexec, hflag .Z, hflag .N, hflag .V, ?_, ?_, rfl, fun _ => rfl, ⟨rfl, rfl⟩, base, hbase, rfl⟩
  · intro q _
    cases q <;> rfl
  · intro f hf
    obtain ⟨hN, hV, hZ⟩ : f ≠ .N ∧ f ≠ .V ∧ f ≠ .Z := by simpa using hf
    rw [setRemaining_flag, hflag, if_neg hV, if_neg hN, if_neg hZ, advance_flag]

/-- Settles O35, from the effect of a BIT test. -/
theorem bitTestsMemoryAgainstA : Obligations.BitTestsMemoryAgainstA := by
  intro s b w r hr
  obtain ⟨hop, hmn⟩ : r.1.operand = .mem r.2 ∧ r.1.mnemonic = .BIT := by
    fin_cases hr <;> exact ⟨rfl, rfl⟩
  obtain ⟨base, hbase, hexec⟩ := exec_next_of_mem hop hmn rfl
  exact exists_next_bit hbase (hexec s)

/-! The branches (44 section 1). -/

/-- A displacement is added to an address modulo 65536 (44 R270). -/
theorem add_ofInt_toNat (a : Address) (d : Int) : ((a + BitVec.ofInt 16 d).toNat : Int) = ((a.toNat : Int) + d) % 65536 := by
  rw [BitVec.toNat_add, BitVec.toNat_ofInt]
  omega

/-- A row that branches on a test of the state: the whole effect, with its frame. -/
theorem exists_next_branch {i : Instr} {s : State} {taken : Bool} {d : Int} (hbase : i.tableBase = some 2)
    (hexec : exec i s = runInstr 2 2 (branchIf taken d) s) :
    ∃ t, exec i s = .next t ∧
      (taken = false → t.PC = s.PC + 2 ∧ Costs i 0 t) ∧
      (taken = true → (t.PC.toNat : Int) = ((s.PC.toNat : Int) + 2 + d) % 65536 ∧
        Costs i (if highByte (s.PC + 2) = highByte t.PC then 1 else 2) t) ∧
      SameRegsExcept [] s t ∧ SameFlagsExcept [] s t ∧ SameMemory s t ∧ SameBookkeeping s t := by
  cases taken with
  | false =>
    exact ⟨_, hexec, fun _ => ⟨rfl, 2, hbase, rfl⟩, nofun, fun _ _ => rfl, fun _ _ => rfl, fun _ => rfl, rfl, rfl⟩
  | true =>
    refine ⟨_, hexec, nofun, fun _ => ⟨?_, 2, hbase, ?_⟩, fun _ _ => rfl, fun _ _ => rfl, fun _ => rfl, rfl, rfl⟩
    · have hPC : ((s.PC + 2).toNat : Int) = ((s.PC.toNat : Int) + 2) % 65536 := by
        rw [BitVec.toNat_add]
        rfl
      refine (add_ofInt_toNat (s.PC + 2) d).trans ?_
      rw [hPC, Int.emod_add_emod]
    · simp [branchIf, samePage]

/-- Settles O41: each of the eight is a branch on its flag. -/
theorem branchesTestOneFlag : Obligations.BranchesTestOneFlag := by
  intro s d _ _
  simp only [List.forall_mem_cons]
  exact ⟨exists_next_branch (tableBase_bcc d) (exec_bcc d s), exists_next_branch (tableBase_bcs d) (exec_bcs d s),
    exists_next_branch (tableBase_beq d) (exec_beq d s), exists_next_branch (tableBase_bmi d) (exec_bmi d s),
    exists_next_branch (tableBase_bne d) (exec_bne d s), exists_next_branch (tableBase_bpl d) (exec_bpl d s),
    exists_next_branch (tableBase_bvc d) (exec_bvc d s), exists_next_branch (tableBase_bvs d) (exec_bvs d s),
    List.forall_mem_nil _⟩

/-! JMP (44 section 2). -/

/-- Settles O42: both rows of JMP jump from the state with nothing else changed. -/
theorem jumpsSetThePC : Obligations.JumpsSetThePC := by
  intro s w
  have hrow {i : Instr} {a : Address} {base : Nat} (hbase : i.tableBase = some base)
      (hexec : exec i s = .next ((s.setPC a).setRemaining base)) :
      ∃ t, exec i s = .next t ∧ t.PC = a ∧ SameRegsExcept [] s t ∧ SameFlagsExcept [] s t ∧ SameMemory s t ∧
        SameBookkeeping s t ∧ Costs i 0 t := by
    obtain ⟨t, hnext, hPC, hmem, hregs, hflags, hkept, hcost⟩ := exists_next_jump hbase hexec
    exact ⟨t, hnext, hPC, hregs, hflags, hmem, hkept, hcost⟩
  simp only [List.forall_mem_cons]
  exact ⟨hrow (tableBase_jmpAbs w) (exec_jmpAbs w s), hrow (tableBase_jmpInd w) (exec_jmpInd w s), List.forall_mem_nil _⟩

/-! PHP and PLP (45 section 1). -/

/-- The pushed copy of P, bit by bit: bits 4 and 5 are set (45 R301, R311). -/
theorem pushedStatus_getLsbD (p : Byte) : ∀ k < 8, (pushedStatus p).getLsbD k = (p.getLsbD k || decide (k = 4 ∨ k = 5)) := by
  intro k hk
  rw [pushedStatus, BitVec.getLsbD_or]
  congr 1
  revert k
  decide

/-- PLP pulls the byte one above SP into P. -/
theorem exec_plp_next (s : State) :
    exec .plp s = .next (((s.pop.setP (pulledStatus (s.read (stackAddr (s.SP + 1))))).setPC (s.PC + 1)).setRemaining 4) := by
  rw [exec_plp, execOne_next, plpOp, top_eq]
  rfl

/-- Settles O48: a push of P with two bits set, and a pull into P with them cleared. -/
theorem statusIsPushedWithBAndUSetAndPulledWithThemCleared :
    Obligations.StatusIsPushedWithBAndUSetAndPulledWithThemCleared := by
  intro s
  constructor
  · obtain ⟨t, hnext, hread, hframe⟩ := exists_next_push tableBase_php (exec_php s)
    exact ⟨t, hnext, hread ▸ pushedStatus_getLsbD s.P, hframe⟩
  · obtain ⟨t, hnext, hPC, hmem, hregs, hflags, hkept, hcost⟩ := exists_next_jump tableBase_plp (exec_plp_next s)
    have hflag : ∀ f, t.flag f = if f = .B ∨ f = .U then false else (s.read (stackAddr (s.SP + 1))).getLsbD f.bit := fun f =>
      (hflags f List.not_mem_nil).trans (flagOf_pulledStatus f _)
    exact ⟨t, hnext, hflag .B, hflag .U, fun f hB hU => (hflag f).trans (if_neg (not_or.mpr ⟨hB, hU⟩)),
      hregs .SP List.not_mem_nil, hmem, fun r hr => (hregs r List.not_mem_nil).trans (pop_sameRegsExcept s r hr), hPC, hkept, hcost⟩

/-! The flag instructions (45 section 2). -/

/-- An instruction that advances PC, writes one flag and costs its base alone: the whole effect, with its frame. -/
theorem exists_next_setFlag {i : Instr} {s : State} {f : Flag} {v : Bool} {base : Nat} (hbase : i.tableBase = some base)
    (hexec : exec i s = .next (((s.advance i.size).setFlag f v).setRemaining base)) :
    ∃ t, exec i s = .next t ∧ t.flag f = v ∧ SameFlagsExcept [f] s t ∧ SameRegsExcept [] s t ∧ FallsThrough i s t ∧
      SameMemory s t ∧ SameBookkeeping s t ∧ Costs i 0 t := by
  refine ⟨_, hexec, by simp, fun g hg => ?_, fun _ _ => rfl, rfl, fun _ => rfl, ⟨rfl, rfl⟩, base, hbase, rfl⟩
  have hne : g ≠ f := by simpa using hg
  rw [setRemaining_flag, setFlag_flag, if_neg hne, advance_flag]

/-- Settles O49: each of the seven writes one flag. -/
theorem flagInstructionsWriteOneFlag : Obligations.FlagInstructionsWriteOneFlag := by
  intro s
  simp only [List.forall_mem_cons]
  exact ⟨exists_next_setFlag tableBase_clc (exec_clc s), exists_next_setFlag tableBase_sec (exec_sec s),
    exists_next_setFlag tableBase_cli (exec_cli s), exists_next_setFlag tableBase_sei (exec_sei s),
    exists_next_setFlag tableBase_cld (exec_cld s), exists_next_setFlag tableBase_sed (exec_sed s),
    exists_next_setFlag tableBase_clv (exec_clv s), List.forall_mem_nil _⟩

/-! BRK (45 section 3, 60 section 2). -/

/-- Trap entry moves SP three down, modulo 256. -/
theorem takeBreak_SP_eq_sub_three (s : State) : s.takeBreak.SP = s.SP - 3 := by
  rw [takeBreak_SP, BitVec.sub_sub, BitVec.sub_sub]
  rfl

/-- The pushed status lies two below the first byte pushed. -/
theorem takeBreak_read_status (s : State) : s.takeBreak.read (stackAddr (s.SP - 2)) = pushedStatus s.P := by
  have hSP : s.SP - 1 - 1 = s.SP - 2 := BitVec.sub_sub _ _ _
  rw [takeBreak_read, hSP, if_pos rfl]

/-- Everywhere else trap entry leaves what pushing the return address leaves. -/
theorem takeBreak_read_of_ne (s : State) {a : Address} (h : a ≠ stackAddr (s.SP - 2)) :
    s.takeBreak.read a = (s.pushWord (s.PC + 1)).read a := by
  have hSP : s.SP - 1 - 1 = s.SP - 2 := BitVec.sub_sub _ _ _
  rw [takeBreak_read, hSP, if_neg h.symm]

/-- The high byte of the return address lies where SP pointed. -/
theorem takeBreak_read_high (s : State) : s.takeBreak.read (stackAddr s.SP) = highByte (s.PC + 1) := by
  have hne : stackAddr s.SP ≠ stackAddr (s.SP - 2) := by
    rw [Ne, stackAddr_inj]
    bv_omega
  rw [takeBreak_read_of_ne s hne, pushWord_read_high]

/-- Its low byte lies one below, modulo 256. -/
theorem takeBreak_read_low (s : State) : s.takeBreak.read (stackAddr (s.SP - 1)) = lowByte (s.PC + 1) := by
  have hne : stackAddr (s.SP - 1) ≠ stackAddr (s.SP - 2) := by
    rw [Ne, stackAddr_inj]
    bv_omega
  rw [takeBreak_read_of_ne s hne, pushWord_read_low]

/-- The frame of trap entry in memory: its three stack bytes. -/
theorem takeBreak_sameMemoryExcept (s : State) :
    SameMemoryExcept [stackAddr s.SP, stackAddr (s.SP - 1), stackAddr (s.SP - 2)] s s.takeBreak := by
  intro a ha
  obtain ⟨hhigh, hlow, hstatus⟩ : a ≠ stackAddr s.SP ∧ a ≠ stackAddr (s.SP - 1) ∧ a ≠ stackAddr (s.SP - 2) := by
    simpa using ha
  exact (takeBreak_read_of_ne s hstatus).trans (pushWord_sameMemoryExcept s _ a (by simpa using ⟨hhigh, hlow⟩))

/-- The only register that trap entry changes is SP. -/
theorem takeBreak_sameRegsExcept (s : State) : SameRegsExcept [.SP] s s.takeBreak := by
  intro r hr
  cases r with
  | A => exact takeBreak_A s
  | X => exact takeBreak_X s
  | Y => exact takeBreak_Y s
  | SP => exact absurd (List.mem_singleton_self _) hr

/-- The only flag that trap entry changes is I. -/
theorem takeBreak_sameFlagsExcept (s : State) : SameFlagsExcept [.I] s s.takeBreak := by
  intro f hf
  have hne : f ≠ .I := by simpa using hf
  rw [takeBreak_flag, if_neg hne]

/-- BRK takes the trap in the advanced state. -/
theorem exec_brk_next (s : State) :
    exec .brk s = .next (((s.advance 1).takeBreak.setPC (s.advance 1).takeBreak.PC).setRemaining 7) := rfl

/-- Settles O50: a jump through the vector from the state that trap entry leaves. -/
theorem breakTakesTheTrap : Obligations.BreakTakesTheTrap := by
  intro s
  obtain ⟨t, hnext, hPC, hmem, hregs, hflags, ⟨htotal, hhalted⟩, hcost⟩ := exists_next_jump tableBase_brk (exec_brk_next s)
  have hreturn : (s.advance 1).PC + 1 = s.PC + 2 := BitVec.add_assoc _ _ _
  have hstatus := (hmem _).trans (takeBreak_read_status (s.advance 1))
  exact ⟨t, hnext, (hregs .SP List.not_mem_nil).trans (takeBreak_SP_eq_sub_three _),
    (hmem _).trans ((takeBreak_read_high _).trans (congrArg highByte hreturn)),
    (hmem _).trans ((takeBreak_read_low _).trans (congrArg lowByte hreturn)), hstatus ▸ pushedStatus_getLsbD s.P,
    hPC.trans (takeBreak_PC _), (hflags .I List.not_mem_nil).trans (takeBreak_flag _ .I),
    fun f hf => (hflags f List.not_mem_nil).trans (takeBreak_sameFlagsExcept _ f hf),
    fun a ha => (hmem a).trans (takeBreak_sameMemoryExcept (s.advance 1) a ha),
    fun r hr => (hregs r List.not_mem_nil).trans (takeBreak_sameRegsExcept _ r hr),
    ⟨htotal.trans (takeBreak_total _), hhalted.trans (takeBreak_halted _)⟩, hcost⟩

end Sys2Proof.Machine
end

section
/-! PROOFS. The frames of every instruction at once (10 sections 1 and 2, 20 section 5, 46 section 2, 70 section 4). An instruction runs
the executor that its operand's kind and its mnemonic give, so a fact about every instruction is a fact about each executor. -/

namespace Sys2Proof.Machine

/-! The executor of an instruction; that of a mnemonic on a memory operand is `memExecutor`. -/

/-- The executor of a mnemonic with an Implied operand. -/
def impliedExecutor : Mnemonic → Option (State → State)
  | .BRK => some brkOp
  | .CLC => some clcOp
  | .CLD => some cldOp
  | .CLI => some cliOp
  | .CLV => some clvOp
  | .DEX => some dexOp
  | .DEY => some deyOp
  | .INX => some inxOp
  | .INY => some inyOp
  | .NOP => some nopOp
  | .PHA => some phaOp
  | .PHP => some phpOp
  | .PLA => some plaOp
  | .PLP => some plpOp
  | .RTI => some rtiOp
  | .RTS => some rtsOp
  | .SEC => some secOp
  | .SED => some sedOp
  | .SEI => some seiOp
  | .TAX => some taxOp
  | .TAY => some tayOp
  | .TSX => some tsxOp
  | .TXA => some txaOp
  | .TXS => some txsOp
  | .TYA => some tyaOp
  | _ => none

/-- What a branch mnemonic tests (44 R271 to R278). -/
def branchTest : Mnemonic → Option (State → Bool)
  | .BCC => some fun s => !s.flag .C
  | .BCS => some fun s => s.flag .C
  | .BEQ => some fun s => s.flag .Z
  | .BMI => some fun s => s.flag .N
  | .BNE => some fun s => !s.flag .Z
  | .BPL => some fun s => !s.flag .N
  | .BVC => some fun s => !s.flag .V
  | .BVS => some fun s => s.flag .V
  | _ => none

/-- The executor of a mnemonic on an operand, in the advanced state, where the mnemonic has such a form (46 R347). -/
def executor (o : Operand) (n : Mnemonic) : Option (State → Effect) :=
  match o with
  | .mem f => (memExecutor n).map fun ex u => ex (resolveMem f u) u
  | .imp => (impliedExecutor n).map fun ex u => (ex u).noPenalty
  | .acc => (shiftCoreOf n).map fun core u => (shiftAt core .acc u).noPenalty
  | .rel d => (branchTest n).map fun test u => branchIf (test u) d u

/-- Every row runs the executor of its operand and mnemonic with its table base. -/
theorem exec_eq_runInstr (i : Instr) :
    ∃ body base, executor i.operand i.mnemonic = some body ∧ i.tableBase = some base ∧
      ∀ s, exec i s = runInstr i.size base body s := by
  cases i <;> exact ⟨_, _, rfl, by simp, fun _ => rfl⟩

/-! What an executor may write. -/

/-- The flags a mnemonic writes, each with the value it is forced to where there is one: the summary table of 10 section 2. -/
def flagRow : Mnemonic → List (Flag × Option Bool)
  | .ADC | .SBC => [(.N, none), (.V, none), (.Z, none), (.C, none)]
  | .BIT => [(.N, none), (.V, none), (.Z, none)]
  | .CMP | .CPX | .CPY | .ASL | .LSR | .ROL | .ROR => [(.N, none), (.Z, none), (.C, none)]
  | .AND | .ORA | .EOR | .INC | .DEC | .INX | .INY | .DEX | .DEY | .LDA | .LDX | .LDY | .TAX | .TAY | .TXA | .TYA | .TSX | .PLA =>
    [(.Z, none), (.N, none)]
  | .CLC => [(.C, some false)]
  | .SEC => [(.C, some true)]
  | .CLI => [(.I, some false)]
  | .SEI | .BRK => [(.I, some true)]
  | .CLD => [(.D, some false)]
  | .SED => [(.D, some true)]
  | .CLV => [(.V, some false)]
  | .PLP | .RTI =>
    [(.N, none), (.V, none), (.U, some false), (.B, some false), (.D, none), (.I, none), (.Z, none), (.C, none)]
  | _ => []

/-- The registers a mnemonic writes, but for a shift of the accumulator (10 section 1). -/
def regsOf : Mnemonic → List Reg
  | .LDA | .TXA | .TYA | .ADC | .SBC | .AND | .ORA | .EOR => [.A]
  | .PLA => [.A, .SP]
  | .LDX | .TAX | .TSX | .INX | .DEX => [.X]
  | .LDY | .TAY | .INY | .DEY => [.Y]
  | .PHA | .PHP | .PLP | .JSR | .RTS | .BRK | .RTI | .TXS => [.SP]
  | _ => []

/-- The registers a mnemonic writes with an operand. -/
def writtenRegs (o : Operand) (n : Mnemonic) : List Reg :=
  match o with
  | .acc => [.A]
  | _ => regsOf n

/-- Where a mnemonic with a memory operand at `a` stores, for the SP before it (20 section 5). -/
def memStores (n : Mnemonic) (a : Address) (sp : Byte) : List Address :=
  match n with
  | .STA | .STX | .STY | .INC | .DEC | .ASL | .LSR | .ROL | .ROR => [a]
  | .JSR => [stackAddr sp, stackAddr (sp - 1)]
  | _ => []

/-- Where a mnemonic with an Implied operand stores, for the SP before it (20 section 5). -/
def impliedStores (n : Mnemonic) (sp : Byte) : List Address :=
  match n with
  | .PHA | .PHP => [stackAddr sp]
  | .BRK => [stackAddr sp, stackAddr (sp - 1), stackAddr (sp - 1 - 1)]
  | _ => []

/-- Where a mnemonic stores with an operand, in the advanced state. -/
def stores (o : Operand) (n : Mnemonic) (u : State) : List Address :=
  match o with
  | .mem f => memStores n (resolveMem f u).address u.SP
  | .imp => impliedStores n u.SP
  | .acc | .rel _ => []

/-- The model's `storedAddrs` in these terms. -/
theorem storedAddrs_eq_stores (i : Instr) (s : State) : storedAddrs i s = stores i.operand i.mnemonic (s.advance i.size) := by
  cases i <;> rfl

/-- A change from `s` to `t` that writes at most some registers, flags and addresses, and the forced flags with their values. -/
structure Frame (written : List Reg) (row : List (Flag × Option Bool)) (stored : List Address) (s t : State) : Prop where
  regs : SameRegsExcept written s t
  flags : SameFlagsExcept (row.map Prod.fst) s t
  forced : ∀ f v, (f, some v) ∈ row → t.flag f = v
  memory : SameMemoryExcept stored s t

/-! The frame of each operation that an executor ends with. -/

/-- No entry of a row without forced values is forced. -/
theorem forced_of_all_none {flags : List (Flag × Option Bool)} (h : ∀ e ∈ flags, e.2 = none) (t : State) (f : Flag) (v : Bool)
    (hmem : (f, some v) ∈ flags) : t.flag f = v :=
  absurd (h _ hmem) (Option.some_ne_none v)

theorem load_frame {load : State → Byte → State} {r : Reg} (hload : ∀ u x, load u x = (u.setReg r x).setZN x) (s : State) (v : Byte) :
    Frame [r] [(.Z, none), (.N, none)] [] s (load s v) where
  regs := by
    intro q hq
    have hne : q ≠ r := by simpa using hq
    simp [hload, hne]
  flags := by
    intro f hf
    rw [hload, setZN_sameFlagsExcept _ v f hf, setReg_flag]
  forced := forced_of_all_none (by decide) _
  memory := by
    intro a _
    simp [hload]

theorem setFlag_frame (s : State) (f : Flag) (v : Bool) : Frame [] [(f, some v)] [] s (s.setFlag f v) where
  regs _ _ := rfl
  flags := by
    intro g hg
    have hne : g ≠ f := by simpa using hg
    rw [setFlag_flag, if_neg hne]
  forced := by
    intro g w hg
    obtain ⟨rfl, rfl⟩ : g = f ∧ w = v := by simpa using hg
    rw [setFlag_flag, if_pos rfl]
  memory _ _ := rfl

theorem writeSum_frame (s : State) (r : CoreResult) :
    Frame [.A] [(.N, none), (.V, none), (.Z, none), (.C, none)] [] s (s.writeSum r) where
  regs := by
    intro q hq
    have hne : q ≠ .A := by simpa using hq
    rw [writeSum_reg, if_neg hne]
  flags := by
    intro f hf
    obtain ⟨hN, hV, hZ, hC⟩ : f ≠ .N ∧ f ≠ .V ∧ f ≠ .Z ∧ f ≠ .C := by simpa using hf
    simp [hN, hV, hZ, hC]
  forced := forced_of_all_none (by decide) _
  memory _ _ := rfl

theorem compare_frame (s : State) (x m : Byte) : Frame [] [(.N, none), (.Z, none), (.C, none)] [] s (s.compare x m) where
  regs r _ := compare_reg s x m r
  flags := by
    intro f hf
    obtain ⟨hN, hZ, hC⟩ : f ≠ .N ∧ f ≠ .Z ∧ f ≠ .C := by simpa using hf
    simp [hN, hZ, hC]
  forced := forced_of_all_none (by decide) _
  memory _ _ := rfl

theorem bitOp_frame (op : MemOperand) (s : State) : Frame [] [(.N, none), (.V, none), (.Z, none)] [] s (bitOp op s).post where
  regs _ _ := rfl
  flags := by
    intro f hf
    obtain ⟨hN, hV, hZ⟩ : f ≠ .N ∧ f ≠ .V ∧ f ≠ .Z := by simpa using hf
    rw [bitOp_flag, if_neg hV, if_neg hN, if_neg hZ]
  forced := forced_of_all_none (by decide) _
  memory _ _ := rfl

theorem write_frame (s : State) (a : Address) (v : Byte) : Frame [] [] [a] s (s.write a v) where
  regs _ _ := rfl
  flags _ _ := rfl
  forced := nofun
  memory := by
    intro c hc
    have hne : a ≠ c := fun h => hc (List.mem_singleton.mpr h.symm)
    rw [write_read, if_neg hne]

theorem writeBack_frame (s : State) (a : Address) (v : Byte) : Frame [] [(.Z, none), (.N, none)] [a] s (s.writeBack a v) where
  regs r _ := writeBack_reg s a v r
  flags := setZN_sameFlagsExcept (s.write a v) v
  forced := forced_of_all_none (by decide) _
  memory := (write_frame s a v).memory

theorem shiftAt_frame (core : ShiftCore) (p : ShiftPlace) (s : State) :
    Frame p.regs [(.N, none), (.Z, none), (.C, none)] p.addresses s (shiftAt core p s) where
  regs := shiftAt_sameRegsExcept core p s
  flags := by
    intro f hf
    obtain ⟨hN, hZ, hC⟩ : f ≠ .N ∧ f ≠ .Z ∧ f ≠ .C := by simpa using hf
    simp [shiftAt_flag, hN, hZ, hC]
  forced := forced_of_all_none (by decide) _
  memory := shiftAt_sameMemoryExcept core p s

theorem push_frame (s : State) (v : Byte) : Frame [.SP] [] [stackAddr s.SP] s (s.push v) where
  regs := push_sameRegsExcept s v
  flags f _ := push_flag s v f
  forced := nofun
  memory := push_sameMemoryExcept s v

theorem jsrOp_frame (op : MemOperand) (s : State) :
    Frame [.SP] [] [stackAddr s.SP, stackAddr (s.SP - 1)] s (jsrOp op s).post where
  regs := pushWord_sameRegsExcept s _
  flags f _ := pushWord_flag s (s.PC - 1) f
  forced := nofun
  memory := pushWord_sameMemoryExcept s _

theorem rtsOp_frame (s : State) : Frame [.SP] [] [] s (rtsOp s) where
  regs r hr := (pop_sameRegsExcept s.pop r hr).trans (pop_sameRegsExcept s r hr)
  flags _ _ := rfl
  forced := nofun
  memory _ _ := rfl

theorem plaOp_frame (s : State) : Frame [.A, .SP] [(.Z, none), (.N, none)] [] s (plaOp s) where
  regs := pop_loadA_sameRegsExcept s s.top
  flags := setZN_sameFlagsExcept (s.pop.setA s.top) s.top
  forced := forced_of_all_none (by decide) _
  memory _ _ := rfl

/-- A state whose P was pulled from the stack: B and U are clear, and any flag may be written. -/
theorem pulled_frame {s t : State} {b : Byte} (hregs : SameRegsExcept [.SP] s t) (hP : ∀ f, t.flag f = flagOf f (pulledStatus b))
    (hmem : SameMemory s t) : Frame [.SP] (flagRow .PLP) [] s t where
  regs := hregs
  flags := by
    intro f hf
    cases f <;> exact absurd (by decide) hf
  forced := by
    intro f v hf
    obtain ⟨hUB, rfl⟩ : (f = .U ∨ f = .B) ∧ v = false := by simpa [flagRow, or_and_right] using hf
    rw [hP, flagOf_pulledStatus, if_pos hUB.symm]
  memory a _ := hmem a

theorem takeBreak_frame (s : State) :
    Frame [.SP] [(.I, some true)] [stackAddr s.SP, stackAddr (s.SP - 1), stackAddr (s.SP - 1 - 1)] s s.takeBreak where
  regs := takeBreak_sameRegsExcept s
  flags := takeBreak_sameFlagsExcept s
  forced := by
    intro f v hf
    obtain ⟨rfl, rfl⟩ : f = .I ∧ v = true := by simpa using hf
    exact takeBreak_flag s .I
  memory := by
    have hSP : s.SP - 1 - 1 = s.SP - 2 := BitVec.sub_sub _ _ _
    rw [hSP]
    exact takeBreak_sameMemoryExcept s

/-- A change of PC alone, or none, writes nothing of the frame. -/
theorem setPC_frame (s : State) (a : Address) : Frame [] [] [] s (s.setPC a) where
  regs _ _ := rfl
  flags _ _ := rfl
  forced := nofun
  memory _ _ := rfl

theorem branchIf_frame (taken : Bool) (d : Int) (s : State) : Frame [] [] [] s (branchIf taken d s).post := by
  cases taken
  · exact setPC_frame s s.PC
  · exact setPC_frame s _

/-! The frame of every executor, by mnemonic. -/

theorem memExecutor_frame {n : Mnemonic} {ex : MemOperand → State → Effect} (h : memExecutor n = some ex) (op : MemOperand) (s : State) :
    Frame (regsOf n) (flagRow n) (memStores n op.address s.SP) s (ex op s).post :=
  match n, h with
  | .LDA, rfl | .AND, rfl | .ORA, rfl | .EOR, rfl => load_frame loadA_eq_setReg s _
  | .LDX, rfl => load_frame loadX_eq_setReg s _
  | .LDY, rfl => load_frame loadY_eq_setReg s _
  | .ADC, rfl | .SBC, rfl => writeSum_frame s _
  | .CMP, rfl | .CPX, rfl | .CPY, rfl => compare_frame s _ _
  | .BIT, rfl => bitOp_frame op s
  | .STA, rfl | .STX, rfl | .STY, rfl => write_frame s _ _
  | .INC, rfl | .DEC, rfl => writeBack_frame s _ _
  | .ASL, rfl | .LSR, rfl | .ROL, rfl | .ROR, rfl => shiftAt_frame _ (.mem op.address) s
  | .JMP, rfl => setPC_frame s _
  | .JSR, rfl => jsrOp_frame op s

theorem impliedExecutor_frame {n : Mnemonic} {ex : State → State} (h : impliedExecutor n = some ex) (s : State) :
    Frame (regsOf n) (flagRow n) (impliedStores n s.SP) s (ex s) :=
  match n, h with
  | .TXA, rfl | .TYA, rfl => load_frame loadA_eq_setReg s _
  | .TAX, rfl | .TSX, rfl | .INX, rfl | .DEX, rfl => load_frame loadX_eq_setReg s _
  | .TAY, rfl | .INY, rfl | .DEY, rfl => load_frame loadY_eq_setReg s _
  | .TXS, rfl => ⟨setSP_sameRegsExcept s s.X, fun _ _ => rfl, nofun, fun _ _ => rfl⟩
  | .CLC, rfl | .SEC, rfl | .CLI, rfl | .SEI, rfl | .CLD, rfl | .SED, rfl | .CLV, rfl => setFlag_frame s _ _
  | .PHA, rfl | .PHP, rfl => push_frame s _
  | .PLA, rfl => plaOp_frame s
  | .PLP, rfl => pulled_frame (pop_sameRegsExcept s) (fun _ => rfl) (fun _ => rfl)
  | .RTI, rfl => pulled_frame (returnFromBreak_sameRegsExcept s) (returnFromBreak_flag s) (returnFromBreak_read s)
  | .RTS, rfl => rtsOp_frame s
  | .BRK, rfl => takeBreak_frame s
  | .NOP, rfl => setPC_frame s s.PC

theorem shiftCoreOf_frame {n : Mnemonic} {core : ShiftCore} (h : shiftCoreOf n = some core) (s : State) :
    Frame [.A] (flagRow n) [] s (shiftAt core .acc s) :=
  match n, h with
  | .ASL, rfl | .LSR, rfl | .ROL, rfl | .ROR, rfl => shiftAt_frame _ .acc s

theorem branchTest_frame {n : Mnemonic} {test : State → Bool} (h : branchTest n = some test) (d : Int) (s : State) :
    Frame (regsOf n) (flagRow n) [] s (branchIf (test s) d s).post :=
  match n, h with
  | .BCC, rfl | .BCS, rfl | .BEQ, rfl | .BMI, rfl | .BNE, rfl | .BPL, rfl | .BVC, rfl | .BVS, rfl => branchIf_frame _ d s

theorem executor_frame {o : Operand} {n : Mnemonic} {body : State → Effect} (h : executor o n = some body) (u : State) :
    Frame (writtenRegs o n) (flagRow n) (stores o n u) u (body u).post := by
  cases o with
  | mem f =>
    obtain ⟨ex, hex, rfl⟩ := Option.map_eq_some_iff.mp h
    exact memExecutor_frame hex _ u
  | imp =>
    obtain ⟨ex, hex, rfl⟩ := Option.map_eq_some_iff.mp h
    exact impliedExecutor_frame hex u
  | acc =>
    obtain ⟨core, hcore, rfl⟩ := Option.map_eq_some_iff.mp h
    exact shiftCoreOf_frame hcore u
  | rel d =>
    obtain ⟨test, htest, rfl⟩ := Option.map_eq_some_iff.mp h
    exact branchTest_frame htest d u

/-- The frame of every instruction; PC and the counters lie outside it. -/
theorem exec_frame {i : Instr} {s t : State} (h : exec i s = .next t) :
    Frame (writtenRegs i.operand i.mnemonic) (flagRow i.mnemonic) (storedAddrs i s) s t := by
  obtain ⟨body, base, hbody, -, hexec⟩ := exec_eq_runInstr i
  obtain ⟨⟩ := (hexec s).symm.trans h
  rw [storedAddrs_eq_stores]
  have hframe := executor_frame hbody (s.advance i.size)
  exact ⟨hframe.regs, hframe.flags, hframe.forced, hframe.memory⟩

/-! The registers (10 section 1). -/

/-- A register is written by its mnemonics, or is the accumulator that a shift names. -/
theorem mem_writtenRegs {o : Operand} {n : Mnemonic} {r : Reg} (h : r ∈ writtenRegs o n) : r ∈ regsOf n ∨ (r = .A ∧ o = .acc) := by
  cases o with
  | acc => exact .inr ⟨List.mem_singleton.mp h, rfl⟩
  | imp | mem | rel => exact .inl h

/-- The mnemonics that write each register. -/
theorem mnemonic_of_mem_regsOf (n : Mnemonic) :
    (.A ∈ regsOf n → n ∈ [Mnemonic.LDA, .PLA, .TXA, .TYA, .ADC, .SBC, .AND, .ORA, .EOR]) ∧
    (.X ∈ regsOf n → n ∈ [Mnemonic.LDX, .TAX, .TSX, .INX, .DEX]) ∧
    (.Y ∈ regsOf n → n ∈ [Mnemonic.LDY, .TAY, .INY, .DEY]) ∧
    (.SP ∈ regsOf n → n ∈ [Mnemonic.PHA, .PHP, .PLA, .PLP, .JSR, .RTS, .BRK, .RTI, .TXS]) := by
  cases n <;> decide

/-- Settles O17: a register outside the frame is unchanged, and `exec_tame` keeps the bookkeeping. -/
theorem eachInstructionWritesOnlyItsRegisters : Obligations.EachInstructionWritesOnlyItsRegisters := by
  intro i s t h
  have hregs := (exec_frame h).regs
  obtain ⟨_, h', htame, -⟩ := exec_tame i s
  obtain ⟨⟩ := h.symm.trans h'
  obtain ⟨hA, hX, hY, hSP⟩ := mnemonic_of_mem_regsOf i.mnemonic
  have hkept {r : Reg} (hne : r ≠ .A) (hr : r ∉ regsOf i.mnemonic) : t.reg r = s.reg r :=
    hregs r fun hmem => (mem_writtenRegs hmem).elim hr fun hacc => hne hacc.1
  exact ⟨fun hA' => hregs .A fun hmem => hA' ((mem_writtenRegs hmem).imp hA And.right),
    fun hn => hkept (by decide) (mt hX hn), fun hn => hkept (by decide) (mt hY hn), fun hn => hkept (by decide) (mt hSP hn),
    htame.total, htame.halted⟩

/-! The flags (10 section 2). -/

/-- Settles O18: the summary table, row by row, for the mnemonics of each clause. -/
theorem eachInstructionWritesOnlyItsFlags : Obligations.EachInstructionWritesOnlyItsFlags := by
  intro i s t h
  have hframe := exec_frame h
  have hsame {l : List Mnemonic} {k : List Flag} (hsub : ∀ n ∈ l, (flagRow n).map Prod.fst ⊆ k) (hn : i.mnemonic ∈ l) :
      SameFlagsExcept k s t := hframe.flags.mono (hsub _ hn)
  have hforced {l : List Mnemonic} {f : Flag} {v : Bool} (hrow : ∀ n ∈ l, (f, some v) ∈ flagRow n) (hn : i.mnemonic ∈ l) :
      t.flag f = v := hframe.forced f v (hrow _ hn)
  have hone {n : Mnemonic} {f : Flag} {v : Bool} (hrow : flagRow n = [(f, some v)]) (hn : i.mnemonic = n) :
      SameFlagsExcept [f] s t ∧ t.flag f = v :=
    ⟨hsame (l := [n]) (by simp [hrow]) (by simp [hn]), hforced (l := [n]) (by simp [hrow]) (by simp [hn])⟩
  exact ⟨hsame (by decide), fun hn => hsame (l := [.BIT]) (by decide) (by simp [hn]), hsame (by decide), hsame (by decide),
    hsame (by decide), hone rfl, hone rfl, hone rfl, fun hn => ⟨hsame (by decide) hn, hforced (by decide) hn⟩, hone rfl, hone rfl,
    hone rfl, fun hn => ⟨hforced (by decide) hn, hforced (by decide) hn⟩⟩

/-- B and U are only ever forced to 0. -/
theorem flagRow_B_U (n : Mnemonic) : ∀ f ∈ [Flag.B, .U], f ∉ (flagRow n).map Prod.fst ∨ (f, some false) ∈ flagRow n := by
  cases n <;> decide

/-- An instruction leaves a clear B or U clear. -/
theorem exec_keeps_clear {i : Instr} {s t : State} (h : exec i s = .next t) {f : Flag} (hf : f = .B ∨ f = .U)
    (hclear : s.flag f = false) : t.flag f = false := by
  have hframe := exec_frame h
  rcases flagRow_B_U i.mnemonic f (by simpa using hf) with hnot | hforced
  · exact (hframe.flags f hnot).trans hclear
  · exact hframe.forced f false hforced

/-- A Step leaves a clear B or U clear: of the four kinds only a dispatch writes P. -/
theorem step_keeps_clear {s t : State} (h : step s = .next t) {f : Flag} (hf : f = .B ∨ f = .U) (hclear : s.flag f = false) :
    t.flag f = false := by
  rcases step_cases h with ⟨_, _, rfl⟩ | ⟨_, _, rfl⟩ | ⟨_, _, _, rfl⟩ | ⟨i, u, _, _, _, hexec, rfl⟩
  · exact hclear
  · exact hclear
  · exact hclear
  · exact exec_keeps_clear hexec hf hclear

/-- Settles O20: a Step keeps the bit clear, and of the other operations only Reset writes P. -/
theorem breakAndUnusedBitsNeverBecomeSet : Obligations.BreakAndUnusedBitsNeverBecomeSet := by
  intro f op s t hf hclear hop
  cases op with
  | step => exact step_keeps_clear hop hf hclear
  | inspect =>
    cases hop
    exact hclear
  | load bytes offset =>
    cases hop
    rwa [hostLoad_flag]
  | reset c =>
    cases hop
    cases c with
    | true => exact BitVec.getLsbD_zero
    | false => exact hclear
  | resumePast =>
    cases hop
    rw [resumePast]
    split
    · exact hclear
    · exact hclear

/-! Memory (20 section 5). -/

/-- Settles O19, from the frame of every instruction. -/
theorem eachInstructionStoresOnlyWhereItSays : Obligations.EachInstructionStoresOnlyWhereItSays :=
  fun _ _ _ h => (exec_frame h).memory

/-! The counters (70 section 4). -/

/-- A state with other counters. -/
def State.clock (s : State) (n m : Nat) : State := { s with remaining := n, total := m }

theorem resolveMem_clock (f : MemForm) (s : State) (n m : Nat) : resolveMem f (s.clock n m) = resolveMem f s := by
  cases f <;> rfl

theorem branchIf_clock (taken : Bool) (d : Int) (s : State) (n m : Nat) :
    branchIf taken d (s.clock n m) = ⟨(branchIf taken d s).post.clock n m, (branchIf taken d s).penalty⟩ := by
  cases taken <;> rfl

/-- No executor looks at the counters or writes them. -/
theorem executor_clock {o : Operand} {mn : Mnemonic} {body : State → Effect} (h : executor o mn = some body) (u : State) (n m : Nat) :
    body (u.clock n m) = ⟨(body u).post.clock n m, (body u).penalty⟩ := by
  cases o with
  | mem f =>
    obtain ⟨ex, hex, rfl⟩ := Option.map_eq_some_iff.mp h
    simp only [resolveMem_clock]
    cases mn <;> cases hex <;> rfl
  | imp =>
    obtain ⟨ex, hex, rfl⟩ := Option.map_eq_some_iff.mp h
    cases mn <;> cases hex <;> rfl
  | acc =>
    obtain ⟨core, -, rfl⟩ := Option.map_eq_some_iff.mp h
    rfl
  | rel d =>
    obtain ⟨test, htest, rfl⟩ := Option.map_eq_some_iff.mp h
    have hsame : test (u.clock n m) = test u := by cases mn <;> cases htest <;> rfl
    simp only [hsame, branchIf_clock]

/-- Settles O22: other counters pass through the executor, and `remaining` is overwritten. -/
theorem resultsDoNotDependOnTiming : Obligations.ResultsDoNotDependOnTiming := by
  intro i s n m
  obtain ⟨body, base, hbody, -, hexec⟩ := exec_eq_runInstr i
  have hadvance : (s.clock n m).advance i.size = (s.advance i.size).clock n m := rfl
  refine ⟨_, hexec s, (hexec (s.clock n m)).trans ?_⟩
  rw [runInstr_next, hadvance, executor_clock hbody]
  rfl

/-! The cost (46 section 2, 70 section 4). -/

/-- The mnemonics that pay for a page crossing (46 R350). -/
def pageReads : List Mnemonic := [.ADC, .AND, .CMP, .EOR, .LDA, .LDX, .LDY, .ORA, .SBC]

/-- The penalty of an operand that reports a crossing (46 R350). -/
theorem penalty_eq_one {op : MemOperand} (h : ∃ a, op = .addrPC a true) : op.penalty = 1 := by
  obtain ⟨a, rfl⟩ := h
  rfl

/-- The penalty of an operand that does not. -/
theorem penalty_eq_zero {op : MemOperand} (h : ¬∃ a, op = .addrPC a true) : op.penalty = 0 := by
  match op with
  | .addr _ => rfl
  | .addrPC _ false => rfl
  | .addrPC a true => exact absurd ⟨a, rfl⟩ h

/-- The executors that pay for a crossing are those of the nine mnemonics. -/
theorem memExecutor_penalty {n : Mnemonic} {ex : MemOperand → State → Effect} (h : memExecutor n = some ex) (op : MemOperand)
    (s : State) : (ex op s).penalty = if n ∈ pageReads then op.penalty else 0 := by
  cases n <;> cases h <;> rfl

/-- What an instruction other than a branch pays beyond its base: 1 for a reported crossing of one of the nine, else 0. -/
theorem executor_penalty {o : Operand} {n : Mnemonic} {body : State → Effect} (hrel : ∀ d, o ≠ .rel d)
    (h : executor o n = some body) (u : State) :
    ((∃ a, resolve o u = .mem (.addrPC a true)) ∧ n ∈ pageReads → (body u).penalty = 1) ∧
    (¬((∃ a, resolve o u = .mem (.addrPC a true)) ∧ n ∈ pageReads) → (body u).penalty = 0) := by
  cases o with
  | mem f =>
    obtain ⟨ex, hex, rfl⟩ := Option.map_eq_some_iff.mp h
    simp only [resolve, Resolved.mem.injEq, memExecutor_penalty hex]
    refine ⟨fun ⟨hcross, hn⟩ => ?_, fun hnot => ?_⟩
    · rw [if_pos hn, penalty_eq_one hcross]
    · split
      · next hn => exact penalty_eq_zero fun hcross => hnot ⟨hcross, hn⟩
      · rfl
  | imp =>
    obtain ⟨ex, -, rfl⟩ := Option.map_eq_some_iff.mp h
    exact ⟨nofun, fun _ => rfl⟩
  | acc =>
    obtain ⟨core, -, rfl⟩ := Option.map_eq_some_iff.mp h
    exact ⟨nofun, fun _ => rfl⟩
  | rel d => exact absurd rfl (hrel d)

/-- Every instruction has its mnemonic, mode and base cycles from a row of the opcode map's lines (30 R94, R95). -/
theorem exists_opcodeMapLine_row (i : Instr) :
    ∃ n : Fin 16, ∃ r ∈ opcodeMapLine n, r.mnemonic = i.mnemonic ∧ r.mode = i.mode ∧ i.tableBase = some r.base := by
  obtain ⟨r, hr, hmn, hmode, -⟩ := i.exists_row
  exact ⟨⟨i.opcode.toNat / 16, by omega⟩, r, List.mem_of_find?_eq_some hr, hmn, hmode, by rw [Instr.tableBase, hr, Option.map_some]⟩

/-- Settles O16: the penalty is the executor's; the modes and the base cycles are checked on the lines of the opcode map. -/
theorem pagePenaltyOnlyForTheNineReads : Obligations.PagePenaltyOnlyForTheNineReads := by
  refine ⟨fun i s hrel => ?_, fun i => ?_, fun i => ?_⟩
  · obtain ⟨body, base, hbody, hbase, hexec⟩ := exec_eq_runInstr i
    obtain ⟨hone, hzero⟩ := executor_penalty hrel hbody (s.advance i.size)
    exact ⟨_, base, hexec s, hbase, fun h => congrArg (base + ·) (hone h), fun h => congrArg (base + ·) (hzero h)⟩
  · obtain ⟨n, r, hr, hmn, hmode, -⟩ := exists_opcodeMapLine_row i
    rw [← hmn, ← hmode]
    clear hmn hmode
    revert r
    fin_cases n <;> decide
  · obtain ⟨n, r, hr, hmn, hmode, hbase⟩ := exists_opcodeMapLine_row i
    rw [← hmn, ← hmode, hbase]
    clear hmn hmode hbase
    revert r
    fin_cases n <;> decide

end Sys2Proof.Machine
end

section
/-! PROOFS. Derived facts of the resolver, the arithmetic cores and the stack: page crossings as changes of page (40 section 1), signed
overflow (10 section 2, 42 section 1), and what a call, a push and a trap give back to the return (44 section 2, 45 section 1, 60
section 2). -/

namespace Sys2Proof.Machine

/-! Page crossings. -/

/-- Adding an index leaves the page exactly when the low byte and the index exceed 0xFF, the wrap at 0xFFFF included. -/
theorem highByte_add_ne_iff (w : Address) (reg : Byte) :
    (lowByte w).toNat + reg.toNat > 0xFF ↔ highByte (w + reg.setWidth 16) ≠ highByte w := by
  have hw := w.isLt
  have hreg := reg.isLt
  rw [Ne, ← BitVec.toNat_inj, highByte_toNat, highByte_toNat, indexed_toNat, lowByte_toNat]
  omega

/-- Settles O25: the three modes are one indexed mode over their base, and the other modes answer `Addr`. -/
theorem pageCrossingIsAHighByteChange : Obligations.PageCrossingIsAHighByteChange := by
  intro s w b
  have hindexed (base : Address) (reg : Byte) : ∃ a crossed, resolveAbsIndexed base reg = .addrPC a crossed ∧
      (crossed = true ↔ highByte a ≠ highByte base) :=
    ⟨_, _, rfl, by rw [decide_eq_true_iff, highByte_add_ne_iff]⟩
  constructor
  · simp only [List.forall_mem_cons]
    exact ⟨hindexed w s.X, hindexed w s.Y, hindexed _ s.Y, List.forall_mem_nil _⟩
  · intro f a crossed h
    cases f with
    | absX | absY | indY => simp [MemForm.mode]
    | imm | zp | zpX | zpY | xInd | abs | ind => cases h

/-! The arithmetic cores. -/

/-- Bit 7 of a byte is clear exactly when its sign is. -/
theorem and_sign_eq_zero_iff (x : Byte) : x &&& 0x80#8 = 0#8 ↔ x.msb = false := by
  revert x
  decide

/-- Bytes differ in bit 7 exactly when their signs do. -/
theorem xor_and_sign_eq_zero_iff (x y : Byte) : (x ^^^ y) &&& 0x80#8 = 0#8 ↔ x.msb = y.msb := by
  rw [and_sign_eq_zero_iff, BitVec.msb_xor, bne_eq_false_iff_eq]

/-- The add core overflows when operands of one sign give the other sign. -/
theorem addCore_overflow_eq_true_iff (a m : Byte) (c : Bool) :
    (addCore a m c).overflow = true ↔ a.msb = m.msb ∧ a.msb ≠ (addCore a m c).result.msb :=
  decide_eq_true_iff.trans (and_congr (xor_and_sign_eq_zero_iff a m) (xor_and_sign_eq_zero_iff a _).not)

/-- The subtract core overflows when operands of opposite sign give a result of the other sign than the first. -/
theorem subCore_overflow_eq_true_iff (a m : Byte) (c : Bool) :
    (subCore a m c).overflow = true ↔ a.msb ≠ m.msb ∧ a.msb ≠ (subCore a m c).result.msb :=
  decide_eq_true_iff.trans (and_congr (xor_and_sign_eq_zero_iff a m).not (xor_and_sign_eq_zero_iff a _).not)

/-- Complementing a byte subtracts it from 0xFF. -/
theorem xor_ff_toNat (m : Byte) : (m ^^^ 0xFF#8).toNat = 255 - m.toNat := by
  rw [show (0xFF#8 : Byte) = BitVec.allOnes 8 from rfl, BitVec.xor_allOnes, BitVec.toNat_not]

/-- It flips the sign. -/
theorem xor_ff_msb (m : Byte) : (m ^^^ 0xFF#8).msb = !m.msb := by
  rw [BitVec.msb_xor]
  exact Bool.xor_true _

/-- Settles O32: the difference and the sum with the complement are 256 apart. -/
theorem subtractIsAddOfComplement : Obligations.SubtractIsAddOfComplement := by
  intro a m c
  have hm := m.isLt
  have hsum : ((a.toNat + (m ^^^ 0xFF#8).toNat + bitOf c : Nat) : Int) = (a.toNat : Int) - m.toNat - (1 - bitOf c) + 256 := by
    rw [xor_ff_toNat]
    omega
  have hresult : (subCore a m c).result = (addCore a (m ^^^ 0xFF#8) c).result := by
    have hdiff := subCore_toNat a m c
    have hadd := addCore_toNat a (m ^^^ 0xFF#8) c
    exact BitVec.eq_of_toNat_eq (by omega)
  have hcarry : (subCore a m c).carry = (addCore a (m ^^^ 0xFF#8) c).carry := by
    simp only [subCore, addCore, decide_eq_decide]
    omega
  have hoverflow : (subCore a m c).overflow = (addCore a (m ^^^ 0xFF#8) c).overflow := by
    rw [Bool.eq_iff_iff, subCore_overflow_eq_true_iff, addCore_overflow_eq_true_iff, hresult, xor_ff_msb, Bool.eq_not]
  exact (CoreResult.mk.injEq ..).mpr ⟨hresult, hcarry, hoverflow⟩

/-- A carry is 0 or 1. -/
theorem bitOf_le_one (c : Bool) : bitOf c ≤ 1 := by
  cases c <;> decide

/-- The add core overflows exactly when the signed sum leaves the range of a byte. -/
theorem addCore_overflow_iff (a m : Byte) (c : Bool) :
    (addCore a m c).overflow = true ↔ ¬(-128 ≤ a.toInt + m.toInt + bitOf c ∧ a.toInt + m.toInt + bitOf c ≤ 127) := by
  have hr := addCore_toNat a m c
  have ha := a.isLt
  have hm := m.isLt
  have hc := bitOf_le_one c
  simp only [addCore_overflow_eq_true_iff, BitVec.msb_eq_decide, BitVec.toInt_eq_toNat_cond, hr, Ne, decide_eq_decide]
  split <;> split <;> omega

/-- The complement of a byte, read as two's complement. -/
theorem xor_ff_toInt (m : Byte) : (m ^^^ 0xFF#8).toInt = -1 - m.toInt := by
  revert m
  decide

/-- Settles O33: for the subtract core by the add core on the complement. -/
theorem overflowIsSignedOverflow : Obligations.OverflowIsSignedOverflow := by
  intro a m c
  refine ⟨addCore_overflow_iff a m c, ?_⟩
  rw [subtractIsAddOfComplement, addCore_overflow_iff, xor_ff_toInt]
  omega

/-! The stack gives back what was pushed. -/

/-- Settles O45: RTS pulls the address JSR pushed, and adds one. -/
theorem subroutineCallReturnsAfterIt : Obligations.SubroutineCallReturnsAfterIt := by
  intro s t u w hjsr hrts
  obtain ⟨t', hjsr', -, hSP, hhigh, hlow, hmem, hregs, hflags, -⟩ := jumpToSubroutinePushesItsLastByte s w
  obtain ⟨⟩ := hjsr.symm.trans hjsr'
  obtain ⟨u', hrts', hPC, hSP', hmem', hregs', hflags', -⟩ := returnFromSubroutinePullsAndAddsOne t
  obtain ⟨⟩ := hrts.symm.trans hrts'
  have hSP2 : t.SP + 2 = s.SP := by rw [hSP, BitVec.sub_add_cancel]
  have hSP1 : t.SP + 1 = s.SP - 1 := by
    rw [hSP]
    bv_omega
  refine ⟨?_, fun r hr => ?_, fun f hf => (hflags' f hf).trans (hflags f hf), fun a ha => (hmem' a).trans (hmem a ha)⟩
  · rw [hPC, hSP2, hSP1, hhigh, hlow, wordOf_high_low, BitVec.add_assoc]
    rfl
  · cases r with
    | SP => exact hSP'.trans hSP2
    | A | X | Y => exact (hregs' _ (by decide)).trans (hregs _ (by decide))

/-- Settles O47: PLA pulls the byte PHA pushed, since neither SP nor memory changed in between. -/
theorem pulledAIsThePushedA : Obligations.PulledAIsThePushedA := by
  intro s t u v hpha hSP hmem hpla
  obtain ⟨⟨t', hpha', hread, hSPt, -⟩, -⟩ := pushAndPullOfA s
  obtain ⟨⟩ := hpha.symm.trans hpha'
  obtain ⟨-, v', hpla', hA, hSPv, hZN, -⟩ := pushAndPullOfA u
  obtain ⟨⟩ := hpla.symm.trans hpla'
  have hSP1 : u.SP + 1 = s.SP := by rw [hSP, hSPt, BitVec.sub_add_cancel]
  have hA' : v.A = s.A := by rw [hA, hSP1, hmem, hread]
  exact ⟨hA', hSPv.trans hSP1, hA' ▸ hZN⟩

/-- Settles O52: RTI pulls the status and the address BRK pushed. -/
theorem trapReturnRestoresTheInterruptedState : Obligations.TrapReturnRestoresTheInterruptedState := by
  intro s t u hbrk hrti
  obtain ⟨t', hbrk', hSP, hhigh, hlow, hstatus, -, -, -, hmem, hregs, -⟩ := breakTakesTheTrap s
  obtain ⟨⟩ := hbrk.symm.trans hbrk'
  obtain ⟨u', hrti', hB, hU, hflag, hPC, hSP', hmem', hregs', -⟩ := returnFromBreakRestoresStatusAndPC t
  obtain ⟨⟩ := hrti.symm.trans hrti'
  have hSP3 : t.SP + 3 = s.SP := by rw [hSP, BitVec.sub_add_cancel]
  have hSP2 : t.SP + 2 = s.SP - 1 := by
    rw [hSP]
    bv_omega
  have hSP1 : t.SP + 1 = s.SP - 2 := by
    rw [hSP]
    bv_omega
  refine ⟨?_, fun r hr => ?_, fun f hf => ?_, hB, hU, fun a ha => (hmem' a).trans (hmem a ha)⟩
  · rw [hPC, hSP3, hSP2, hhigh, hlow, wordOf_high_low]
  · cases r with
    | SP => exact hSP'.trans hSP3
    | A | X | Y => exact (hregs' _ (by decide)).trans (hregs _ (by decide))
  · obtain ⟨hfB, hfU⟩ : f ≠ .B ∧ f ≠ .U := by simpa using hf
    rw [hflag f hfB hfU, hSP1, hstatus f.bit (by cases f <;> decide)]
    cases f with
    | B => exact absurd rfl hfB
    | U => exact absurd rfl hfU
    | C | Z | I | D | V | N => exact Bool.or_false _

end Sys2Proof.Machine
end

section
/-! PROOFS. Memory and the host interface: reads after writes and canonical memories (20 sections 1 and 4), Load, Reset and ResumePast
(46 section 3, 70 sections 1 and 2), and what Inspect shows (60 section 4). -/

namespace Sys2Proof.Machine

/-! Canonical memories that read alike are equal. -/

/-- A listed byte is the one its address reads as: no address is listed twice. -/
theorem read_eq_of_mem {m : Memory} (h : m.wf) {c : Host.Cell} (hc : c ∈ m) : m.read c.1 = c.2 := by
  obtain ⟨hsorted, -⟩ := h
  induction m with
  | nil => cases hc
  | cons d m ih =>
    obtain ⟨hd, htail⟩ := List.pairwise_cons.mp hsorted
    rcases List.mem_cons.mp hc with rfl | hc
    · exact if_pos rfl
    · exact (if_neg (hd c hc).ne).trans (ih hc htail)

/-- An address that does not read as an unlisted one is listed, with the byte it reads as. -/
theorem mem_of_read_ne {m : Memory} (hm : m.wf) {a : Nat} (h : m.read a ≠ Config.unlistedByte) : (a, m.read a) ∈ m := by
  obtain ⟨c, hc, rfl⟩ : ∃ c ∈ m, c.1 = a := by
    by_contra hnone
    exact h (read_eq_unlisted_of_not_listed fun c hc hca => hnone ⟨c, hc, hca⟩)
  rwa [read_eq_of_mem hm hc]

/-- Every byte that one canonical memory lists is listed in another that reads alike. -/
theorem mem_of_read_eq {m n : Memory} (hm : m.wf) (hn : n.wf) (h : ∀ a < 65536, m.read a = n.read a) {c : Host.Cell} (hc : c ∈ m) :
    c ∈ n := by
  obtain ⟨hlt, hne⟩ := hm.2 c hc
  have hread : n.read c.1 = c.2 := (h c.1 hlt).symm.trans (read_eq_of_mem hm hc)
  have hlisted := mem_of_read_ne hn (hread ▸ hne)
  rwa [hread] at hlisted

/-- Two canonical memories that read alike list the same bytes, and in the same order. -/
theorem memory_ext {m n : Memory} (hm : m.wf) (hn : n.wf) (h : ∀ a < 65536, m.read a = n.read a) : m = n :=
  have _ : Std.Irrefl fun c d : Host.Cell => c.1 < d.1 := ⟨fun c => lt_irrefl c.1⟩
  have _ : Std.Antisymm fun c d : Host.Cell => c.1 < d.1 := ⟨fun _ _ hcd hdc => absurd hcd hdc.asymm⟩
  hm.1.eq_of_mem_iff hn.1 fun _ => ⟨mem_of_read_eq hm hn h, mem_of_read_eq hn hm fun a ha => (h a ha).symm⟩

/-- Settles O55, from a read after a write and the equality of canonical memories. -/
theorem memoryHoldsTheLastByteWritten : Obligations.MemoryHoldsTheLastByteWritten := by
  refine ⟨fun s a b v => ⟨?_, fun hne => ?_, rfl, fun h => write_keeps_wf h a v⟩, fun m n => memory_ext⟩
  · rw [write_read, if_pos rfl]
  · rw [write_read, if_neg hne.symm]

/-! Load (46 section 3). -/

/-- The address of a byte of an image, counted from the second byte. -/
theorem add_ofNat_succ (a : Address) (i : Nat) : a + BitVec.ofNat 16 (i + 1) = a + 1 + BitVec.ofNat 16 i := by
  rw [BitVec.add_assoc, Nat.add_comm, BitVec.ofNat_add]
  rfl

/-- Loading changes no byte outside the image. -/
theorem hostLoad_read_of_ne {bytes : List Byte} {offset a : Address} (h : ∀ i < bytes.length, a ≠ offset + BitVec.ofNat 16 i)
    (s : State) : (hostLoad bytes offset s).read a = s.read a := by
  induction bytes generalizing offset s with
  | nil => rfl
  | cons v vs ih =>
    have htail : ∀ i < vs.length, a ≠ offset + 1 + BitVec.ofNat 16 i := fun i hi =>
      add_ofNat_succ offset i ▸ h (i + 1) (Nat.succ_lt_succ hi)
    have hhead : offset ≠ a := fun he => h 0 (Nat.succ_pos _) (by simp [he])
    exact (ih htail (s.write offset v)).trans (by rw [write_read, if_neg hhead])

/-- A byte of the image stands at its address when no later byte falls on it. -/
theorem hostLoad_read_of_last {bytes : List Byte} {offset : Address} {i : Nat} (hi : i < bytes.length)
    (hlast : ∀ j, i < j → j < bytes.length → offset + BitVec.ofNat 16 j ≠ offset + BitVec.ofNat 16 i) (s : State) :
    (hostLoad bytes offset s).read (offset + BitVec.ofNat 16 i) = bytes[i] := by
  induction bytes generalizing offset s i with
  | nil => cases hi
  | cons v vs ih =>
    cases i with
    | zero =>
      have htail : ∀ j < vs.length, offset + BitVec.ofNat 16 0 ≠ offset + 1 + BitVec.ofNat 16 j := fun j hj =>
        add_ofNat_succ offset j ▸ (hlast (j + 1) j.succ_pos (Nat.succ_lt_succ hj)).symm
      exact (hostLoad_read_of_ne htail (s.write offset v)).trans (by simp)
    | succ i =>
      rw [add_ofNat_succ]
      refine ih (Nat.lt_of_succ_lt_succ hi) (fun j hij hj => ?_) (s.write offset v)
      rw [← add_ofNat_succ, ← add_ofNat_succ]
      exact hlast (j + 1) (Nat.succ_lt_succ hij) (Nat.succ_lt_succ hj)

/-- Settles O56, by induction on the image. -/
theorem loadCopiesTheImage : Obligations.LoadCopiesTheImage := by
  intro bytes offset s
  refine ⟨fun i hi hlast => hostLoad_read_of_last hi hlast s, fun a h => hostLoad_read_of_ne h s, ?_⟩
  rw [hostLoad_eq_with_mem]

/-! Reset and ResumePast (46 section 3, 70 sections 1 and 2). -/

/-- Settles O57: Reset writes these fields and leaves the others. -/
theorem resetSetsPCAndSP : Obligations.ResetSetsPCAndSP := by
  intro c s t
  exact ⟨hostReset_PC s c, hostReset_SP s c, hostReset_P s c, hostReset_remaining s c, hostReset_halted s c, hostReset_A s c,
    hostReset_X s c, hostReset_Y s c, hostReset_total s c, hostReset_mem s c⟩

/-- Settles O58: the state of power-on after a clearing Reset, with nothing listed in memory. -/
theorem resetStateIsResetAtPowerOn : Obligations.ResetStateIsResetAtPowerOn :=
  ⟨reset_eq_hostReset_powerOn, rfl, rfl, rfl, rfl, rfl, rfl, fun _ => rfl⟩

/-- Settles O59, by whether an error is latched. -/
theorem resumePastSkipsOneByte : Obligations.ResumePastSkipsOneByte := by
  intro s
  constructor
  · intro e he
    simp only [resumePast, he]
    rfl
  · intro hnone
    simp only [resumePast, hnone]

/-! Inspect (60 section 4). -/

/-- Settles O60: Inspect shows every field, P by its eight flags and memory by its bytes. -/
theorem inspectShowsTheWholeState : Obligations.InspectShowsTheWholeState := by
  refine ⟨fun s t hs ht hinspect hbytes => ?_, fun _ => rfl⟩
  simp only [inspect, Inspection.mk.injEq] at hinspect
  obtain ⟨hA, hX, hY, hPC, hSP, hN, hV, hU, hB, hD, hI, hZ, hC, hremaining, htotal, hhalted⟩ := hinspect
  have hP : s.P = t.P := by
    apply status_ext
    intro f
    cases f
    case N => exact hN
    case V => exact hV
    case U => exact hU
    case B => exact hB
    case D => exact hD
    case I => exact hI
    case Z => exact hZ
    case C => exact hC
  have hmem : s.mem = t.mem := memory_ext hs ht fun a ha => by
    have hbyte : s.mem.read (BitVec.ofNat 16 a).toNat = t.mem.read (BitVec.ofNat 16 a).toNat := hbytes (BitVec.ofNat 16 a)
    rwa [BitVec.toNat_ofNat, Nat.mod_eq_of_lt ha] at hbyte
  exact (State.mk.injEq ..).mpr ⟨hA, hX, hY, hSP, hPC, hP, hmem, hremaining, htotal, hhalted⟩

end Sys2Proof.Machine
end
